-- ==== Sys2Proof/Word.lean ====
section
/-! DEFINITION. The two word types of the core (00_scope.md rule R8): 8-bit data, 16-bit addresses. -/

namespace Sys2Proof

/-- The data width: A, X, Y, memory bytes, the status byte (R8). -/
abbrev Byte := BitVec 8

/-- The address width: PC, SP, effective addresses (R8). -/
abbrev Addr := BitVec 16

end Sys2Proof
end

