-- ==== Sys2Proof/Config.lean ====
section
/-! DEFINITION. The named parameters of 00_scope.md rule R9, at the values the spec takes.
`P_ILLEGAL_POLICY` (Fault) and `P_DECIMAL` (Binary) have no constant here: their alternatives need
lengths, cycle counts or a fault that the spec does not give (notes/assumptions/3.md). -/

namespace Sys2Proof

/-- The order in which the two bytes of a 16-bit quantity stand. -/
inductive ByteOrder where
  | highFirst
  | lowFirst
  deriving DecidableEq, Repr

namespace Config

/-- `P_OPERAND_ORDER`: the first operand byte of the instruction stream is the high one (R9, R46, D6). -/
def operandOrder : ByteOrder := .highFirst

/-- `P_PTR_ORDER`: a pointer in memory has its low byte at the lower address (R9, R47, D7). -/
def ptrOrder : ByteOrder := .lowFirst

/-- `P_JMP_IND_PAGE_WRAP`: JMP (indirect) reads both pointer bytes from one page (R9, R190, D8). -/
def jmpIndPageWrap : Bool := true

/-- `P_PHP_BITS54`: what PHP writes into bits 5 and 4 of the pushed byte (R9, R26, D12). -/
def phpBits54 : BitVec 2 := 0b11#2

end Config

end Sys2Proof
end

