-- ==== Sys2Proof/Syntax.lean ====
section
/-! DEFINITION. Abstract syntax: the operand forms of 40_engine_addressing.md rule R83 and the
instructions of 30_encoding.md rule R65. A row of spec/opcode_table.json is a mnemonic with an
addressing mode; a constructor of `Instr` is the mnemonic and its argument the mode
(notes/assumptions/1.md). -/

namespace Sys2Proof

/-- The eight addressing modes that deliver a memory operand (R90 to R94, R96, R97). -/
inductive MemMode where
  /-- zero page (R90) -/
  | zp (z : Byte)
  /-- zero page,X (R91) -/
  | zpX (z : Byte)
  /-- zero page,Y (R92) -/
  | zpY (z : Byte)
  /-- absolute (R93) -/
  | abs (addr : Addr)
  /-- absolute,X (R94) -/
  | absX (base : Addr)
  /-- absolute,Y (R94) -/
  | absY (base : Addr)
  /-- (indirect,X) (R96) -/
  | indX (z : Byte)
  /-- (indirect),Y (R97) -/
  | indY (z : Byte)
  deriving DecidableEq, Repr

/-- The operand of a read-class instruction: an immediate byte (R89) or a memory operand. -/
inductive ReadOperand where
  | imm (value : Byte)
  | mem (m : MemMode)
  deriving DecidableEq, Repr

/-- The operand location of a shift or rotate: the accumulator (R88) or a memory operand (R83). -/
inductive Loc where
  | acc
  | mem (m : MemMode)
  deriving DecidableEq, Repr

/-- The instructions, in the order of 30_encoding.md rule R65. -/
inductive Instr where
  | lda (o : ReadOperand)
  | ldx (o : ReadOperand)
  | ldy (o : ReadOperand)
  | sta (m : MemMode)
  | stx (m : MemMode)
  | sty (m : MemMode)
  | tax
  | tay
  | txa
  | tya
  | tsx
  | txs
  | adc (o : ReadOperand)
  | sbc (o : ReadOperand)
  | and (o : ReadOperand)
  | ora (o : ReadOperand)
  | eor (o : ReadOperand)
  | bit (m : MemMode)
  | cmp (o : ReadOperand)
  | cpx (o : ReadOperand)
  | cpy (o : ReadOperand)
  | asl (l : Loc)
  | lsr (l : Loc)
  | rol (l : Loc)
  | ror (l : Loc)
  | inc (m : MemMode)
  | dec (m : MemMode)
  | inx
  | iny
  | dex
  | dey
  | bcc (off : Byte)
  | bcs (off : Byte)
  | beq (off : Byte)
  | bne (off : Byte)
  | bmi (off : Byte)
  | bpl (off : Byte)
  | bvc (off : Byte)
  | bvs (off : Byte)
  /-- JMP absolute (R189) -/
  | jmpAbs (target : Addr)
  /-- JMP (absolute indirect) (R99, R190) -/
  | jmpInd (ptr : Addr)
  | jsr (target : Addr)
  | rts
  | pha
  | php
  | pla
  | plp
  | clc
  | sec
  | cli
  | sei
  | clv
  | cld
  | sed
  | nop
  /-- 0x00, unimplemented in this core (R212) -/
  | brk
  /-- 0x40, unimplemented in this core (R213) -/
  | rti
  /-- one of the 105 bytes that are no documented opcode (R66) -/
  | illegal (op : Byte)
  deriving DecidableEq, Repr

end Sys2Proof
end

