-- ==== Sys2Proof/WellFormed.lean ====
section
/-! DEFINITION. Which operand forms an instruction has: the columns of 30_encoding.md rule R65, and
the undocumented bytes of rule R66. -/

namespace Sys2Proof

/-- The modes LDA, STA and the accumulator arithmetic and logic have: all but zero page,Y (R65). -/
def MemMode.inAccColumns : MemMode → Bool
  | .zpY _ => false
  | .zp _ | .zpX _ | .abs _ | .absX _ | .absY _ | .indX _ | .indY _ => true

/-- The modes of LDX: zero page; zero page,Y; absolute; absolute,Y (R65). -/
def MemMode.inLdxColumns : MemMode → Bool
  | .zp _ | .zpY _ | .abs _ | .absY _ => true
  | .zpX _ | .absX _ | .indX _ | .indY _ => false

/-- The modes of LDY and of the read-modify-write instructions: zero page; zero page,X; absolute;
absolute,X (R65). -/
def MemMode.inXColumns : MemMode → Bool
  | .zp _ | .zpX _ | .abs _ | .absX _ => true
  | .zpY _ | .absY _ | .indX _ | .indY _ => false

/-- The modes of STX: zero page; zero page,Y; absolute (R65). -/
def MemMode.inStxColumns : MemMode → Bool
  | .zp _ | .zpY _ | .abs _ => true
  | .zpX _ | .absX _ | .absY _ | .indX _ | .indY _ => false

/-- The modes of STY: zero page; zero page,X; absolute (R65). -/
def MemMode.inStyColumns : MemMode → Bool
  | .zp _ | .zpX _ | .abs _ => true
  | .zpY _ | .absX _ | .absY _ | .indX _ | .indY _ => false

/-- The modes of BIT, CPX and CPY: zero page; absolute (R65). -/
def MemMode.inPlainColumns : MemMode → Bool
  | .zp _ | .abs _ => true
  | .zpX _ | .zpY _ | .absX _ | .absY _ | .indX _ | .indY _ => false

/-- An operand that is an immediate, or a memory operand in the given columns. -/
def ReadOperand.immOr (cols : MemMode → Bool) : ReadOperand → Bool
  | .imm _ => true
  | .mem m => cols m

/-- A location that is the accumulator, or a memory operand in the given columns. -/
def Loc.accOr (cols : MemMode → Bool) : Loc → Bool
  | .acc => true
  | .mem m => cols m

/-- The unimplemented bytes of R66 below 0x80, BRK (0x00) and RTI (0x40) among them. -/
def unimplementedLow : List Byte :=
  [0x00, 0x02, 0x03, 0x04, 0x07, 0x0B, 0x0C, 0x0F, 0x12, 0x13, 0x14, 0x17, 0x1A, 0x1B, 0x1C, 0x1F] ++
  [0x22, 0x23, 0x27, 0x2B, 0x2F, 0x32, 0x33, 0x34, 0x37, 0x3A, 0x3B, 0x3C, 0x3F, 0x40, 0x42, 0x43] ++
  [0x44, 0x47, 0x4B, 0x4F, 0x52, 0x53, 0x54, 0x57, 0x5A, 0x5B, 0x5C, 0x5F, 0x62, 0x63, 0x64, 0x67] ++
  [0x6B, 0x6F, 0x72, 0x73, 0x74, 0x77, 0x7A, 0x7B, 0x7C, 0x7F]

/-- The unimplemented bytes of R66 from 0x80 on. -/
def unimplementedHigh : List Byte :=
  [0x80, 0x82, 0x83, 0x87, 0x89, 0x8B, 0x8F, 0x92, 0x93, 0x97, 0x9B, 0x9C, 0x9E, 0x9F, 0xA3, 0xA7] ++
  [0xAB, 0xAF, 0xB2, 0xB3, 0xB7, 0xBB, 0xBF, 0xC2, 0xC3, 0xC7, 0xCB, 0xCF, 0xD2, 0xD3, 0xD4, 0xD7] ++
  [0xDA, 0xDB, 0xDC, 0xDF, 0xE2, 0xE3, 0xE7, 0xEB, 0xEF, 0xF2, 0xF3, 0xF4, 0xF7, 0xFA, 0xFB, 0xFC] ++
  [0xFF]

/-- The 107 unimplemented opcode bytes, as R66 lists them. -/
def unimplementedBytes : List Byte := unimplementedLow ++ unimplementedHigh

/-- A byte that is neither an implemented opcode nor BRK nor RTI (R66). -/
def undocumented (op : Byte) : Bool :=
  unimplementedBytes.contains op && op != 0x00 && op != 0x40

/-- The instruction has an opcode byte: its operand form is one of its row of R65, or it is one of
the bytes of R66. -/
def Instr.WellFormed : Instr → Bool
  | .lda o | .adc o | .sbc o | .and o | .ora o | .eor o | .cmp o => o.immOr MemMode.inAccColumns
  | .ldx o => o.immOr MemMode.inLdxColumns
  | .ldy o => o.immOr MemMode.inXColumns
  | .cpx o | .cpy o => o.immOr MemMode.inPlainColumns
  | .sta m => m.inAccColumns
  | .stx m => m.inStxColumns
  | .sty m => m.inStyColumns
  | .bit m => m.inPlainColumns
  | .asl l | .lsr l | .rol l | .ror l => l.accOr MemMode.inXColumns
  | .inc m | .dec m => m.inXColumns
  | .illegal op => undocumented op
  | .tax | .tay | .txa | .tya | .tsx | .txs | .inx | .iny | .dex | .dey => true
  | .bcc _ | .bcs _ | .beq _ | .bne _ | .bmi _ | .bpl _ | .bvc _ | .bvs _ => true
  | .jmpAbs _ | .jmpInd _ | .jsr _ | .rts => true
  | .pha | .php | .pla | .plp | .clc | .sec | .cli | .sei | .clv | .cld | .sed | .nop => true
  | .brk | .rti => true

end Sys2Proof
end

