-- ==== Sys2Proof/Decode.lean ====
section
/-! DEFINITION. Decoding and encoding: the opcode map of 30_encoding.md rule R64 (the decoder), the
formats of rule R61, and the table of rule R65 (the encoder). The two tables are written out
separately, as the spec gives them. -/

namespace Sys2Proof

/-- `hi : lo`, the 16-bit value with high byte `hi` (00_scope.md rule R12). -/
def joinBytes (hi lo : Byte) : Addr := hi ++ lo

/-- `v[15:8]`, which is also the page of an address (R11). -/
def hiByte (v : Addr) : Byte := v.extractLsb' 8 8

/-- `v[7:0]` (R11). -/
def loByte (v : Addr) : Byte := v.extractLsb' 0 8

/-- The 16-bit value whose bytes stand in the given order. -/
def ByteOrder.join : ByteOrder → Byte → Byte → Addr
  | .highFirst, first, second => joinBytes first second
  | .lowFirst, first, second => joinBytes second first

/-- The two bytes of a 16-bit value in the given order. -/
def ByteOrder.split : ByteOrder → Addr → List Byte
  | .highFirst, v => [hiByte v, loByte v]
  | .lowFirst, v => [loByte v, hiByte v]

/-- The 16-bit operand made of the two bytes after the opcode (R14, R46, R62). -/
def operandWord (b1 b2 : Byte) : Addr := Config.operandOrder.join b1 b2

/-! ## The opcode map (R63, R64) -/

/-- A row of R64: the low four bits of an opcode, and the instruction made from the operand bytes. -/
abbrev OpcodeRow := List (Nat × (Byte → Byte → Instr))

/-- Row 0x of R64. -/
def opcodeRow0 : OpcodeRow :=
  [(0x0, fun _ _ => .brk),
   (0x1, fun b1 _ => .ora (.mem (.indX b1))),
   (0x5, fun b1 _ => .ora (.mem (.zp b1))),
   (0x6, fun b1 _ => .asl (.mem (.zp b1))),
   (0x8, fun _ _ => .php),
   (0x9, fun b1 _ => .ora (.imm b1)),
   (0xA, fun _ _ => .asl .acc),
   (0xD, fun b1 b2 => .ora (.mem (.abs (operandWord b1 b2)))),
   (0xE, fun b1 b2 => .asl (.mem (.abs (operandWord b1 b2))))]

/-- Row 1x of R64. -/
def opcodeRow1 : OpcodeRow :=
  [(0x0, fun b1 _ => .bpl b1),
   (0x1, fun b1 _ => .ora (.mem (.indY b1))),
   (0x5, fun b1 _ => .ora (.mem (.zpX b1))),
   (0x6, fun b1 _ => .asl (.mem (.zpX b1))),
   (0x8, fun _ _ => .clc),
   (0x9, fun b1 b2 => .ora (.mem (.absY (operandWord b1 b2)))),
   (0xD, fun b1 b2 => .ora (.mem (.absX (operandWord b1 b2)))),
   (0xE, fun b1 b2 => .asl (.mem (.absX (operandWord b1 b2))))]

/-- Row 2x of R64. -/
def opcodeRow2 : OpcodeRow :=
  [(0x0, fun b1 b2 => .jsr (operandWord b1 b2)),
   (0x1, fun b1 _ => .and (.mem (.indX b1))),
   (0x4, fun b1 _ => .bit (.zp b1)),
   (0x5, fun b1 _ => .and (.mem (.zp b1))),
   (0x6, fun b1 _ => .rol (.mem (.zp b1))),
   (0x8, fun _ _ => .plp),
   (0x9, fun b1 _ => .and (.imm b1)),
   (0xA, fun _ _ => .rol .acc),
   (0xC, fun b1 b2 => .bit (.abs (operandWord b1 b2))),
   (0xD, fun b1 b2 => .and (.mem (.abs (operandWord b1 b2)))),
   (0xE, fun b1 b2 => .rol (.mem (.abs (operandWord b1 b2))))]

/-- Row 3x of R64. -/
def opcodeRow3 : OpcodeRow :=
  [(0x0, fun b1 _ => .bmi b1),
   (0x1, fun b1 _ => .and (.mem (.indY b1))),
   (0x5, fun b1 _ => .and (.mem (.zpX b1))),
   (0x6, fun b1 _ => .rol (.mem (.zpX b1))),
   (0x8, fun _ _ => .sec),
   (0x9, fun b1 b2 => .and (.mem (.absY (operandWord b1 b2)))),
   (0xD, fun b1 b2 => .and (.mem (.absX (operandWord b1 b2)))),
   (0xE, fun b1 b2 => .rol (.mem (.absX (operandWord b1 b2))))]

/-- Row 4x of R64. -/
def opcodeRow4 : OpcodeRow :=
  [(0x0, fun _ _ => .rti),
   (0x1, fun b1 _ => .eor (.mem (.indX b1))),
   (0x5, fun b1 _ => .eor (.mem (.zp b1))),
   (0x6, fun b1 _ => .lsr (.mem (.zp b1))),
   (0x8, fun _ _ => .pha),
   (0x9, fun b1 _ => .eor (.imm b1)),
   (0xA, fun _ _ => .lsr .acc),
   (0xC, fun b1 b2 => .jmpAbs (operandWord b1 b2)),
   (0xD, fun b1 b2 => .eor (.mem (.abs (operandWord b1 b2)))),
   (0xE, fun b1 b2 => .lsr (.mem (.abs (operandWord b1 b2))))]

/-- Row 5x of R64. -/
def opcodeRow5 : OpcodeRow :=
  [(0x0, fun b1 _ => .bvc b1),
   (0x1, fun b1 _ => .eor (.mem (.indY b1))),
   (0x5, fun b1 _ => .eor (.mem (.zpX b1))),
   (0x6, fun b1 _ => .lsr (.mem (.zpX b1))),
   (0x8, fun _ _ => .cli),
   (0x9, fun b1 b2 => .eor (.mem (.absY (operandWord b1 b2)))),
   (0xD, fun b1 b2 => .eor (.mem (.absX (operandWord b1 b2)))),
   (0xE, fun b1 b2 => .lsr (.mem (.absX (operandWord b1 b2))))]

/-- Row 6x of R64. -/
def opcodeRow6 : OpcodeRow :=
  [(0x0, fun _ _ => .rts),
   (0x1, fun b1 _ => .adc (.mem (.indX b1))),
   (0x5, fun b1 _ => .adc (.mem (.zp b1))),
   (0x6, fun b1 _ => .ror (.mem (.zp b1))),
   (0x8, fun _ _ => .pla),
   (0x9, fun b1 _ => .adc (.imm b1)),
   (0xA, fun _ _ => .ror .acc),
   (0xC, fun b1 b2 => .jmpInd (operandWord b1 b2)),
   (0xD, fun b1 b2 => .adc (.mem (.abs (operandWord b1 b2)))),
   (0xE, fun b1 b2 => .ror (.mem (.abs (operandWord b1 b2))))]

/-- Row 7x of R64. -/
def opcodeRow7 : OpcodeRow :=
  [(0x0, fun b1 _ => .bvs b1),
   (0x1, fun b1 _ => .adc (.mem (.indY b1))),
   (0x5, fun b1 _ => .adc (.mem (.zpX b1))),
   (0x6, fun b1 _ => .ror (.mem (.zpX b1))),
   (0x8, fun _ _ => .sei),
   (0x9, fun b1 b2 => .adc (.mem (.absY (operandWord b1 b2)))),
   (0xD, fun b1 b2 => .adc (.mem (.absX (operandWord b1 b2)))),
   (0xE, fun b1 b2 => .ror (.mem (.absX (operandWord b1 b2))))]

/-- Row 8x of R64. -/
def opcodeRow8 : OpcodeRow :=
  [(0x1, fun b1 _ => .sta (.indX b1)),
   (0x4, fun b1 _ => .sty (.zp b1)),
   (0x5, fun b1 _ => .sta (.zp b1)),
   (0x6, fun b1 _ => .stx (.zp b1)),
   (0x8, fun _ _ => .dey),
   (0xA, fun _ _ => .txa),
   (0xC, fun b1 b2 => .sty (.abs (operandWord b1 b2))),
   (0xD, fun b1 b2 => .sta (.abs (operandWord b1 b2))),
   (0xE, fun b1 b2 => .stx (.abs (operandWord b1 b2)))]

/-- Row 9x of R64. -/
def opcodeRow9 : OpcodeRow :=
  [(0x0, fun b1 _ => .bcc b1),
   (0x1, fun b1 _ => .sta (.indY b1)),
   (0x4, fun b1 _ => .sty (.zpX b1)),
   (0x5, fun b1 _ => .sta (.zpX b1)),
   (0x6, fun b1 _ => .stx (.zpY b1)),
   (0x8, fun _ _ => .tya),
   (0x9, fun b1 b2 => .sta (.absY (operandWord b1 b2))),
   (0xA, fun _ _ => .txs),
   (0xD, fun b1 b2 => .sta (.absX (operandWord b1 b2)))]

/-- Row Ax of R64. -/
def opcodeRowA : OpcodeRow :=
  [(0x0, fun b1 _ => .ldy (.imm b1)),
   (0x1, fun b1 _ => .lda (.mem (.indX b1))),
   (0x2, fun b1 _ => .ldx (.imm b1)),
   (0x4, fun b1 _ => .ldy (.mem (.zp b1))),
   (0x5, fun b1 _ => .lda (.mem (.zp b1))),
   (0x6, fun b1 _ => .ldx (.mem (.zp b1))),
   (0x8, fun _ _ => .tay),
   (0x9, fun b1 _ => .lda (.imm b1)),
   (0xA, fun _ _ => .tax),
   (0xC, fun b1 b2 => .ldy (.mem (.abs (operandWord b1 b2)))),
   (0xD, fun b1 b2 => .lda (.mem (.abs (operandWord b1 b2)))),
   (0xE, fun b1 b2 => .ldx (.mem (.abs (operandWord b1 b2))))]

/-- Row Bx of R64. -/
def opcodeRowB : OpcodeRow :=
  [(0x0, fun b1 _ => .bcs b1),
   (0x1, fun b1 _ => .lda (.mem (.indY b1))),
   (0x4, fun b1 _ => .ldy (.mem (.zpX b1))),
   (0x5, fun b1 _ => .lda (.mem (.zpX b1))),
   (0x6, fun b1 _ => .ldx (.mem (.zpY b1))),
   (0x8, fun _ _ => .clv),
   (0x9, fun b1 b2 => .lda (.mem (.absY (operandWord b1 b2)))),
   (0xA, fun _ _ => .tsx),
   (0xC, fun b1 b2 => .ldy (.mem (.absX (operandWord b1 b2)))),
   (0xD, fun b1 b2 => .lda (.mem (.absX (operandWord b1 b2)))),
   (0xE, fun b1 b2 => .ldx (.mem (.absY (operandWord b1 b2))))]

/-- Row Cx of R64. -/
def opcodeRowC : OpcodeRow :=
  [(0x0, fun b1 _ => .cpy (.imm b1)),
   (0x1, fun b1 _ => .cmp (.mem (.indX b1))),
   (0x4, fun b1 _ => .cpy (.mem (.zp b1))),
   (0x5, fun b1 _ => .cmp (.mem (.zp b1))),
   (0x6, fun b1 _ => .dec (.zp b1)),
   (0x8, fun _ _ => .iny),
   (0x9, fun b1 _ => .cmp (.imm b1)),
   (0xA, fun _ _ => .dex),
   (0xC, fun b1 b2 => .cpy (.mem (.abs (operandWord b1 b2)))),
   (0xD, fun b1 b2 => .cmp (.mem (.abs (operandWord b1 b2)))),
   (0xE, fun b1 b2 => .dec (.abs (operandWord b1 b2)))]

/-- Row Dx of R64. -/
def opcodeRowD : OpcodeRow :=
  [(0x0, fun b1 _ => .bne b1),
   (0x1, fun b1 _ => .cmp (.mem (.indY b1))),
   (0x5, fun b1 _ => .cmp (.mem (.zpX b1))),
   (0x6, fun b1 _ => .dec (.zpX b1)),
   (0x8, fun _ _ => .cld),
   (0x9, fun b1 b2 => .cmp (.mem (.absY (operandWord b1 b2)))),
   (0xD, fun b1 b2 => .cmp (.mem (.absX (operandWord b1 b2)))),
   (0xE, fun b1 b2 => .dec (.absX (operandWord b1 b2)))]

/-- Row Ex of R64. -/
def opcodeRowE : OpcodeRow :=
  [(0x0, fun b1 _ => .cpx (.imm b1)),
   (0x1, fun b1 _ => .sbc (.mem (.indX b1))),
   (0x4, fun b1 _ => .cpx (.mem (.zp b1))),
   (0x5, fun b1 _ => .sbc (.mem (.zp b1))),
   (0x6, fun b1 _ => .inc (.zp b1)),
   (0x8, fun _ _ => .inx),
   (0x9, fun b1 _ => .sbc (.imm b1)),
   (0xA, fun _ _ => .nop),
   (0xC, fun b1 b2 => .cpx (.mem (.abs (operandWord b1 b2)))),
   (0xD, fun b1 b2 => .sbc (.mem (.abs (operandWord b1 b2)))),
   (0xE, fun b1 b2 => .inc (.abs (operandWord b1 b2)))]

/-- Row Fx of R64. -/
def opcodeRowF : OpcodeRow :=
  [(0x0, fun b1 _ => .beq b1),
   (0x1, fun b1 _ => .sbc (.mem (.indY b1))),
   (0x5, fun b1 _ => .sbc (.mem (.zpX b1))),
   (0x6, fun b1 _ => .inc (.zpX b1)),
   (0x8, fun _ _ => .sed),
   (0x9, fun b1 b2 => .sbc (.mem (.absY (operandWord b1 b2)))),
   (0xD, fun b1 b2 => .sbc (.mem (.absX (operandWord b1 b2)))),
   (0xE, fun b1 b2 => .inc (.absX (operandWord b1 b2)))]

/-- The rows of R64 by the opcode's high four bits. -/
def opcodeRow : Nat → OpcodeRow
  | 0 => opcodeRow0
  | 1 => opcodeRow1
  | 2 => opcodeRow2
  | 3 => opcodeRow3
  | 4 => opcodeRow4
  | 5 => opcodeRow5
  | 6 => opcodeRow6
  | 7 => opcodeRow7
  | 8 => opcodeRow8
  | 9 => opcodeRow9
  | 10 => opcodeRowA
  | 11 => opcodeRowB
  | 12 => opcodeRowC
  | 13 => opcodeRowD
  | 14 => opcodeRowE
  | 15 => opcodeRowF
  | _ => []

/-- R63: the instruction whose opcode byte is `b0` and whose next bytes are `b1` and `b2`, of which
it takes as many as its format has. Total: a byte with no entry is `illegal` (R66). -/
def decodeBytes (b0 b1 b2 : Byte) : Instr :=
  match (opcodeRow (b0.toNat / 16)).lookup (b0.toNat % 16) with
  | some build => build b1 b2
  | none => .illegal b0

/-! ## Formats (R61) -/

/-- How many operand bytes a memory mode has (R61). -/
def MemMode.operandLength : MemMode → Nat
  | .zp _ | .zpX _ | .zpY _ | .indX _ | .indY _ => 1
  | .abs _ | .absX _ | .absY _ => 2

/-- How many operand bytes a read operand has (R61). -/
def ReadOperand.operandLength : ReadOperand → Nat
  | .imm _ => 1
  | .mem m => m.operandLength

/-- How many operand bytes a shift's location has (R61). -/
def Loc.operandLength : Loc → Nat
  | .acc => 0
  | .mem m => m.operandLength

/-- The length of an instruction in bytes (R60, R61); an unimplemented byte is one byte. -/
def Instr.length : Instr → Nat
  | .lda o | .ldx o | .ldy o | .adc o | .sbc o | .and o | .ora o | .eor o | .cmp o | .cpx o | .cpy o =>
    1 + o.operandLength
  | .sta m | .stx m | .sty m | .bit m | .inc m | .dec m => 1 + m.operandLength
  | .asl l | .lsr l | .rol l | .ror l => 1 + l.operandLength
  | .bcc _ | .bcs _ | .beq _ | .bne _ | .bmi _ | .bpl _ | .bvc _ | .bvs _ => 2
  | .jmpAbs _ | .jmpInd _ | .jsr _ => 3
  | .tax | .tay | .txa | .tya | .tsx | .txs | .inx | .iny | .dex | .dey | .rts => 1
  | .pha | .php | .pla | .plp | .clc | .sec | .cli | .sei | .clv | .cld | .sed | .nop => 1
  | .brk | .rti | .illegal _ => 1

/-- The length an opcode byte announces: it alone decides (R60, R63). -/
def opcodeLength (op : Byte) : Nat := (decodeBytes op 0 0).length

/-- Why a list of bytes holds no instruction. -/
inductive DecodeError where
  /-- there is no byte at all -/
  | noBytes
  /-- the operand bytes that the opcode byte `op` announces are not all there -/
  | truncated (op : Byte)
  deriving DecidableEq, Repr

/-- The instruction at the head of a list of bytes and the bytes after it, or why there is none. -/
def decode : List Byte → Except DecodeError (Instr × List Byte)
  | [] => .error .noBytes
  | op :: rest =>
    if rest.length + 1 < opcodeLength op then .error (.truncated op)
    else .ok (decodeBytes op (rest.getD 0 0) (rest.getD 1 0), rest.drop (opcodeLength op - 1))

/-- Byte `k` of the bits `w` of an instruction of `nbits` bits, numbered as spec/opcode_table.json
numbers them; bits from `nbits` on are 0. -/
def tableByte (nbits w k : Nat) : Byte := BitVec.ofNat 8 (w % 2 ^ nbits / 256 ^ k)

/-- What `decode` reads from the bits of a table row, the longest instruction's bytes laid out in
memory order. -/
def decodeTableWord (nbits w : Nat) : Option Instr :=
  match decode [tableByte nbits w 0, tableByte nbits w 1, tableByte nbits w 2] with
  | .ok (i, _) => some i
  | .error _ => none

/-! ## The encoder (R61, R65) -/

/-- The opcode bytes of one mnemonic's memory modes: a row of R65. -/
structure MemOpcodes where
  zp : Option Byte := none
  zpX : Option Byte := none
  zpY : Option Byte := none
  abs : Option Byte := none
  absX : Option Byte := none
  absY : Option Byte := none
  indX : Option Byte := none
  indY : Option Byte := none

/-- The column of a mode in a row of R65. -/
def MemOpcodes.column (r : MemOpcodes) : MemMode → Option Byte
  | .zp _ => r.zp
  | .zpX _ => r.zpX
  | .zpY _ => r.zpY
  | .abs _ => r.abs
  | .absX _ => r.absX
  | .absY _ => r.absY
  | .indX _ => r.indX
  | .indY _ => r.indY

/-- Row LDA of R65, its memory columns. -/
def memOpcodesLda : MemOpcodes :=
  { indX := some 0xA1, zp := some 0xA5, abs := some 0xAD, indY := some 0xB1, zpX := some 0xB5, absY := some 0xB9, absX := some 0xBD }

/-- Row LDX of R65, its memory columns. -/
def memOpcodesLdx : MemOpcodes :=
  { zp := some 0xA6, abs := some 0xAE, zpY := some 0xB6, absY := some 0xBE }

/-- Row LDY of R65, its memory columns. -/
def memOpcodesLdy : MemOpcodes :=
  { zp := some 0xA4, abs := some 0xAC, zpX := some 0xB4, absX := some 0xBC }

/-- Row STA of R65, its memory columns. -/
def memOpcodesSta : MemOpcodes :=
  { indX := some 0x81, zp := some 0x85, abs := some 0x8D, indY := some 0x91, zpX := some 0x95, absY := some 0x99, absX := some 0x9D }

/-- Row STX of R65, its memory columns. -/
def memOpcodesStx : MemOpcodes :=
  { zp := some 0x86, abs := some 0x8E, zpY := some 0x96 }

/-- Row STY of R65, its memory columns. -/
def memOpcodesSty : MemOpcodes :=
  { zp := some 0x84, abs := some 0x8C, zpX := some 0x94 }

/-- Row ADC of R65, its memory columns. -/
def memOpcodesAdc : MemOpcodes :=
  { indX := some 0x61, zp := some 0x65, abs := some 0x6D, indY := some 0x71, zpX := some 0x75, absY := some 0x79, absX := some 0x7D }

/-- Row SBC of R65, its memory columns. -/
def memOpcodesSbc : MemOpcodes :=
  { indX := some 0xE1, zp := some 0xE5, abs := some 0xED, indY := some 0xF1, zpX := some 0xF5, absY := some 0xF9, absX := some 0xFD }

/-- Row AND of R65, its memory columns. -/
def memOpcodesAnd : MemOpcodes :=
  { indX := some 0x21, zp := some 0x25, abs := some 0x2D, indY := some 0x31, zpX := some 0x35, absY := some 0x39, absX := some 0x3D }

/-- Row ORA of R65, its memory columns. -/
def memOpcodesOra : MemOpcodes :=
  { indX := some 0x01, zp := some 0x05, abs := some 0x0D, indY := some 0x11, zpX := some 0x15, absY := some 0x19, absX := some 0x1D }

/-- Row EOR of R65, its memory columns. -/
def memOpcodesEor : MemOpcodes :=
  { indX := some 0x41, zp := some 0x45, abs := some 0x4D, indY := some 0x51, zpX := some 0x55, absY := some 0x59, absX := some 0x5D }

/-- Row BIT of R65, its memory columns. -/
def memOpcodesBit : MemOpcodes :=
  { zp := some 0x24, abs := some 0x2C }

/-- Row CMP of R65, its memory columns. -/
def memOpcodesCmp : MemOpcodes :=
  { indX := some 0xC1, zp := some 0xC5, abs := some 0xCD, indY := some 0xD1, zpX := some 0xD5, absY := some 0xD9, absX := some 0xDD }

/-- Row CPX of R65, its memory columns. -/
def memOpcodesCpx : MemOpcodes :=
  { zp := some 0xE4, abs := some 0xEC }

/-- Row CPY of R65, its memory columns. -/
def memOpcodesCpy : MemOpcodes :=
  { zp := some 0xC4, abs := some 0xCC }

/-- Row ASL of R65, its memory columns. -/
def memOpcodesAsl : MemOpcodes :=
  { zp := some 0x06, abs := some 0x0E, zpX := some 0x16, absX := some 0x1E }

/-- Row LSR of R65, its memory columns. -/
def memOpcodesLsr : MemOpcodes :=
  { zp := some 0x46, abs := some 0x4E, zpX := some 0x56, absX := some 0x5E }

/-- Row ROL of R65, its memory columns. -/
def memOpcodesRol : MemOpcodes :=
  { zp := some 0x26, abs := some 0x2E, zpX := some 0x36, absX := some 0x3E }

/-- Row ROR of R65, its memory columns. -/
def memOpcodesRor : MemOpcodes :=
  { zp := some 0x66, abs := some 0x6E, zpX := some 0x76, absX := some 0x7E }

/-- Row INC of R65, its memory columns. -/
def memOpcodesInc : MemOpcodes :=
  { zp := some 0xE6, abs := some 0xEE, zpX := some 0xF6, absX := some 0xFE }

/-- Row DEC of R65, its memory columns. -/
def memOpcodesDec : MemOpcodes :=
  { zp := some 0xC6, abs := some 0xCE, zpX := some 0xD6, absX := some 0xDE }

/-- The opcode byte of an instruction (R65); none where R65 has no byte for the form. -/
def opcodeOf : Instr → Option Byte
  | .lda (.imm _) => some 0xA9
  | .lda (.mem m) => memOpcodesLda.column m
  | .ldx (.imm _) => some 0xA2
  | .ldx (.mem m) => memOpcodesLdx.column m
  | .ldy (.imm _) => some 0xA0
  | .ldy (.mem m) => memOpcodesLdy.column m
  | .sta m => memOpcodesSta.column m
  | .stx m => memOpcodesStx.column m
  | .sty m => memOpcodesSty.column m
  | .tax => some 0xAA
  | .tay => some 0xA8
  | .txa => some 0x8A
  | .tya => some 0x98
  | .tsx => some 0xBA
  | .txs => some 0x9A
  | .adc (.imm _) => some 0x69
  | .adc (.mem m) => memOpcodesAdc.column m
  | .sbc (.imm _) => some 0xE9
  | .sbc (.mem m) => memOpcodesSbc.column m
  | .and (.imm _) => some 0x29
  | .and (.mem m) => memOpcodesAnd.column m
  | .ora (.imm _) => some 0x09
  | .ora (.mem m) => memOpcodesOra.column m
  | .eor (.imm _) => some 0x49
  | .eor (.mem m) => memOpcodesEor.column m
  | .bit m => memOpcodesBit.column m
  | .cmp (.imm _) => some 0xC9
  | .cmp (.mem m) => memOpcodesCmp.column m
  | .cpx (.imm _) => some 0xE0
  | .cpx (.mem m) => memOpcodesCpx.column m
  | .cpy (.imm _) => some 0xC0
  | .cpy (.mem m) => memOpcodesCpy.column m
  | .asl .acc => some 0x0A
  | .asl (.mem m) => memOpcodesAsl.column m
  | .lsr .acc => some 0x4A
  | .lsr (.mem m) => memOpcodesLsr.column m
  | .rol .acc => some 0x2A
  | .rol (.mem m) => memOpcodesRol.column m
  | .ror .acc => some 0x6A
  | .ror (.mem m) => memOpcodesRor.column m
  | .inc m => memOpcodesInc.column m
  | .dec m => memOpcodesDec.column m
  | .inx => some 0xE8
  | .iny => some 0xC8
  | .dex => some 0xCA
  | .dey => some 0x88
  | .bcc _ => some 0x90
  | .bcs _ => some 0xB0
  | .beq _ => some 0xF0
  | .bne _ => some 0xD0
  | .bmi _ => some 0x30
  | .bpl _ => some 0x10
  | .bvc _ => some 0x50
  | .bvs _ => some 0x70
  | .jmpAbs _ => some 0x4C
  | .jmpInd _ => some 0x6C
  | .jsr _ => some 0x20
  | .rts => some 0x60
  | .pha => some 0x48
  | .php => some 0x08
  | .pla => some 0x68
  | .plp => some 0x28
  | .clc => some 0x18
  | .sec => some 0x38
  | .cli => some 0x58
  | .sei => some 0x78
  | .clv => some 0xB8
  | .cld => some 0xD8
  | .sed => some 0xF8
  | .nop => some 0xEA
  | .brk => some 0x00
  | .rti => some 0x40
  | .illegal op => some op

/-- The operand bytes of a memory mode (R61). -/
def MemMode.operandBytes : MemMode → List Byte
  | .zp z | .zpX z | .zpY z | .indX z | .indY z => [z]
  | .abs a | .absX a | .absY a => Config.operandOrder.split a

/-- The operand bytes of a read operand (R61). -/
def ReadOperand.operandBytes : ReadOperand → List Byte
  | .imm v => [v]
  | .mem m => m.operandBytes

/-- The operand bytes of a shift's location (R61). -/
def Loc.operandBytes : Loc → List Byte
  | .acc => []
  | .mem m => m.operandBytes

/-- The operand bytes of an instruction (R61). -/
def Instr.operandBytes : Instr → List Byte
  | .lda o | .ldx o | .ldy o | .adc o | .sbc o | .and o | .ora o | .eor o | .cmp o | .cpx o | .cpy o =>
    o.operandBytes
  | .sta m | .stx m | .sty m | .bit m | .inc m | .dec m => m.operandBytes
  | .asl l | .lsr l | .rol l | .ror l => l.operandBytes
  | .bcc off | .bcs off | .beq off | .bne off | .bmi off | .bpl off | .bvc off | .bvs off => [off]
  | .jmpAbs a | .jmpInd a | .jsr a => Config.operandOrder.split a
  | .tax | .tay | .txa | .tya | .tsx | .txs | .inx | .iny | .dex | .dey | .rts => []
  | .pha | .php | .pla | .plp | .clc | .sec | .cli | .sei | .clv | .cld | .sed | .nop => []
  | .brk | .rti | .illegal _ => []

/-- The bytes of a well-formed instruction, at rising addresses (R61); no bytes where R65 has no
opcode for the form. -/
def encode (i : Instr) : List Byte :=
  match opcodeOf i with
  | some op => op :: i.operandBytes
  | none => []

end Sys2Proof
end

