-- ==== Sys2Proof/Machine/State.lean ====
section
/-! DEFINITION. The state of the core (10_state.md), plain data; its reset value
(70_reset_and_hazards.md rules R240, R242); why a step can stop. -/

namespace Sys2Proof.Machine

/-- The processor status: six independent booleans (R26). -/
structure Flags where
  /-- N, Negative (R27) -/
  n : Bool
  /-- V, Overflow (R28) -/
  v : Bool
  /-- D, Decimal (R29) -/
  d : Bool
  /-- I, Interrupt-disable (R30) -/
  i : Bool
  /-- Z, Zero (R31) -/
  z : Bool
  /-- C, Carry (R32) -/
  c : Bool
  deriving DecidableEq, Repr

/-- The 65536 bytes of memory (R40), as the list of those that differ from 0x00, the reset contents;
`Memory.wf` (Machine/Memory.lean) is its canonical form. -/
abbrev Memory := List Host.Cell

/-- Everything the spec gives the machine (10_state.md, 20_memory.md). -/
structure State where
  /-- A, the accumulator (R21) -/
  a : Byte
  /-- X, index register (R22) -/
  x : Byte
  /-- Y, index register (R23) -/
  y : Byte
  /-- SP, stored as 16 bits of which instructions see bits 7..0 (R24) -/
  sp : Addr
  /-- PC, between steps the address of the next opcode (R25) -/
  pc : Addr
  /-- the processor status (R26) -/
  flags : Flags
  /-- irq_pending, a hook only the host reads or writes (R33) -/
  irqPending : Bool
  /-- nmi_pending, a hook only the host reads or writes (R33) -/
  nmiPending : Bool
  /-- the memory (R40) -/
  mem : Memory
  /-- the per-step cycle counter: after a step, the cycles that step took (R35) -/
  cycles : Nat
  deriving DecidableEq, Repr

/-- Why a step can stop with a fault. -/
inductive Fault where
  /-- `IllegalOpcode(op, pc)` (60_exceptions.md rule R220): raised by the meanings of BRK, RTI and
  the undocumented bytes, through `raiseIllegal`. It is the spec's own outcome, in which nothing is
  written. Safe. -/
  | illegalOpcode (op : Byte) (pc : Addr)
  deriving DecidableEq, Repr

/-- Why a step can be refused. -/
inductive Refusal where
  /-- raised by an arm of `exec` whose instruction has no meaning yet; no arm is one. Safe. -/
  | notModelled (mnemonic : String)
  deriving DecidableEq, Repr

/-- All six flags false (R26, R240). -/
def Flags.clear : Flags :=
  { n := false, v := false, d := false, i := false, z := false, c := false }

/-- The state after Reset and after Construct (R240 to R242): every field as the spec states it. -/
def State.reset : State :=
  { a := 0x00
    x := 0x00
    y := 0x00
    sp := 0x0100
    pc := 0xFFFC
    flags := Flags.clear
    irqPending := false
    nmiPending := false
    mem := []
    cycles := 0 }

end Sys2Proof.Machine
end

