-- ==== Sys2Proof/Machine/Flags.lean ====
section
/-! DEFINITION. The flag evaluator and ALU (40_engine_addressing.md rules R102 to R104, 00_scope.md
rule R17) and the status byte of PHP and PLP (10_state.md rule R26). -/

namespace Sys2Proof.Machine

/-- `bit(t)` as an 8-bit value (R12). -/
def bit8 (t : Bool) : Byte := if t then 1 else 0

/-- `SetNZ(r)`: Z from r = 0, N from r[7] (R17). -/
def Flags.setNZ (r : Byte) (f : Flags) : Flags :=
  { f with z := r == 0, n := r.getLsbD 7 }

/-- `AddWithCarry(a, b, cin)`: the 8-bit sum, the carry out and the signed overflow (R103). -/
def addWithCarry (a b : Byte) (cin : Bool) : Byte × Bool × Bool :=
  let t : BitVec 9 := a.setWidth 9 + b.setWidth 9 + (bit8 cin).setWidth 9
  let r : Byte := t.setWidth 8
  (r, 0x0FF#9 < t, (a.getLsbD 7 == b.getLsbD 7) && (r.getLsbD 7 != a.getLsbD 7))

/-- The flags after an addition with the given sum, carry out and overflow (R140, R141). -/
def Flags.afterAdd (res : Byte × Bool × Bool) (f : Flags) : Flags :=
  Flags.setNZ res.1 { f with c := res.2.1, v := res.2.2 }

/-- `Compare(reg, m)`: C, Z and N of `reg - m`; nothing else is written (R104). -/
def Flags.compare (reg m : Byte) (f : Flags) : Flags :=
  { f with c := m ≤ reg, z := reg == m, n := (reg - m).getLsbD 7 }

/-- The flags of BIT: Z from A & M, N and V from bits 7 and 6 of M (R145). -/
def Flags.bitTest (a m : Byte) (f : Flags) : Flags :=
  { f with z := (a &&& m) == 0, n := m.getLsbD 7, v := m.getLsbD 6 }

/-- What a shift or rotate makes of a byte and the old carry: the result and the bit shifted out. -/
abbrev ShiftOp := Byte → Bool → Byte × Bool

/-- ASL (R160). -/
def shiftAsl : ShiftOp := fun v _ => (v <<< 1, v.getLsbD 7)

/-- LSR (R161). -/
def shiftLsr : ShiftOp := fun v _ => (v >>> 1, v.getLsbD 0)

/-- ROL: the old carry enters bit 0 (R162). -/
def shiftRol : ShiftOp := fun v c => ((v <<< 1) ||| bit8 c, v.getLsbD 7)

/-- ROR: the old carry enters bit 7 (R163). -/
def shiftRor : ShiftOp := fun v c => ((v >>> 1) ||| (bit8 c <<< 7), v.getLsbD 0)

/-- The flags after a shift: C the bit shifted out, then N and Z of the result (R160 to R163). -/
def Flags.afterShift (res : Byte × Bool) (f : Flags) : Flags :=
  Flags.setNZ res.1 { f with c := res.2 }

/-- `PackP()`: the byte PHP pushes, bits 5 and 4 from `P_PHP_BITS54` (R26). -/
def Flags.packP (f : Flags) : Byte :=
  (bit8 f.n <<< 7) ||| (bit8 f.v <<< 6) ||| (Config.phpBits54.setWidth 8 <<< 4) |||
    (bit8 f.d <<< 3) ||| (bit8 f.i <<< 2) ||| (bit8 f.z <<< 1) ||| bit8 f.c

/-- `UnpackP(b)`: all six flags from a byte, bits 5 and 4 ignored (R26). -/
def Flags.unpackP (b : Byte) : Flags :=
  { n := b.getLsbD 7
    v := b.getLsbD 6
    d := b.getLsbD 3
    i := b.getLsbD 2
    z := b.getLsbD 1
    c := b.getLsbD 0 }

end Sys2Proof.Machine
end

