-- ==== Sys2Proof/Machine/Memory.lean ====
section
/-! DEFINITION. Memory as a canonical list of cells: 65536 bytes, all zero at reset, every address
readable and writable (20_memory.md rules R40 to R45). Keys are addresses as natural numbers. -/

namespace Sys2Proof.Machine

/-- What an address that is not listed reads as: the reset contents, 0x00 (R40). -/
def Memory.unlisted : Byte := 0x00

/-- The byte at a key. -/
def Memory.read : Memory → Nat → Byte
  | [], _ => Memory.unlisted
  | (k, v) :: rest, key => if k = key then v else Memory.read rest key

/-- The memory without a key, which then reads as unlisted. -/
def Memory.erase (m : Memory) (key : Nat) : Memory := m.filter fun c => c.1 != key

/-- A cell put before the first cell with a larger key. -/
def Memory.insert : Memory → Nat → Byte → Memory
  | [], key, v => [(key, v)]
  | (k, w) :: rest, key, v =>
    if key < k then (key, v) :: (k, w) :: rest else (k, w) :: Memory.insert rest key v

/-- The memory with a byte stored. Storing what an unlisted address reads as removes the cell. -/
def Memory.write (m : Memory) (key : Nat) (v : Byte) : Memory :=
  if v = Memory.unlisted then m.erase key else (m.erase key).insert key v

/-- The canonical form: keys strictly rising, all below 65536, no cell equal to what an unlisted
address reads as. Equal memories in this form are equal lists. -/
abbrev Memory.wf (m : Memory) : Prop :=
  m.Pairwise (fun c d => c.1 < d.1) ∧ ∀ c ∈ m, c.1 < 65536 ∧ c.2 ≠ Memory.unlisted

end Sys2Proof.Machine
end

