-- ==== Sys2Proof/Machine/Ops.lean ====
section
/-! DEFINITION. The named operations over registers, memory and stack, the fetch, and the one
exceptional outcome (00_scope.md rules R13 to R17, 60_exceptions.md rule R220). -/

namespace Sys2Proof.Machine

/-! ## Memory (R13, R42) -/

/-- `MemRead(addr, 1)`. -/
def State.read (s : State) (addr : Addr) : Byte := s.mem.read addr.toNat

/-- `MemWrite(addr, 1, v)`. -/
def State.write (s : State) (addr : Addr) (v : Byte) : State :=
  { s with mem := s.mem.write addr.toNat v }

/-! ## Registers (R13) -/

/-- `A <- v` -/
def State.setA (s : State) (v : Byte) : State := { s with a := v }

/-- `X <- v` -/
def State.setX (s : State) (v : Byte) : State := { s with x := v }

/-- `Y <- v` -/
def State.setY (s : State) (v : Byte) : State := { s with y := v }

/-- `SP <- v` -/
def State.setSP (s : State) (v : Addr) : State := { s with sp := v }

/-- `PC <- v` -/
def State.setPC (s : State) (v : Addr) : State := { s with pc := v }

/-- The flags changed by a function; those it leaves alone keep their value (R17, R102). -/
def State.mapFlags (s : State) (f : Flags → Flags) : State := { s with flags := f s.flags }

/-- `SetNZ(r)` (R17). -/
def State.setNZ (s : State) (r : Byte) : State := s.mapFlags (Flags.setNZ r)

/-- `cycles <- cycles + k` (R13). -/
def State.addCycles (s : State) (k : Nat) : State := { s with cycles := s.cycles + k }

/-- Where a step stands when its operation runs: PC past the instruction's `len` bytes (R85), the
cycle counter, cleared at the step's start, at the instruction's count (R35, R81). -/
def State.start (s : State) (len cyc : Nat) : State :=
  { s with pc := s.pc + BitVec.ofNat 16 len, cycles := cyc }

/-! ## Addresses -/

/-- `0x00 : z`, a zero-page address (R62, R90). -/
def zeroPage (z : Byte) : Addr := z.setWidth 16

/-- `cross(base, ea)`: the page differs (R86). -/
def pageDiffers (base ea : Addr) : Bool := hiByte base != hiByte ea

/-- `ReadPtrZP(p)`: the pointer at p and p + 1 in page zero, in `P_PTR_ORDER` (R15, R47). -/
def readPtrZP (s : State) (p : Byte) : Addr :=
  Config.ptrOrder.join (s.read (zeroPage p)) (s.read (zeroPage (p + 1)))

/-- The address of the second byte of JMP indirect's pointer: on the page of the first where
`P_JMP_IND_PAGE_WRAP` holds (R190). -/
def jmpPtrSecond (ptr : Addr) : Addr :=
  if Config.jmpIndPageWrap then joinBytes (hiByte ptr) (loByte ptr + 1) else ptr + 1

/-- The destination of JMP indirect, read from memory in `P_PTR_ORDER` (R190). -/
def jmpIndTarget (s : State) (ptr : Addr) : Addr :=
  Config.ptrOrder.join (s.read ptr) (s.read (jmpPtrSecond ptr))

/-! ## The stack (R16) -/

/-- `0x0100 | SP[7:0]`, where every stack access goes (R16, R24). -/
def stackAddr (sp : Addr) : Addr := 0x0100 ||| (loByte sp).setWidth 16

/-- `Push(v)`: write, then SP - 1 (R16). -/
def State.push (s : State) (v : Byte) : State :=
  (s.write (stackAddr s.sp) v).setSP (s.sp - 1)

/-- `Pull()`: SP + 1, then read (R16): the byte and the state after. -/
def State.pull (s : State) : Byte × State :=
  let s' := s.setSP (s.sp + 1)
  (s'.read (stackAddr s'.sp), s')

/-! ## The exceptional outcome (R220 to R226)

It is the core's only exception. It saves nothing, changes no mode and transfers no control (R225),
and there is no return from it (R226), so no return operation stands here. -/

/-- `raise IllegalOpcode(op, a)` at the instruction's address a: nothing is written (R220, R221). -/
def raiseIllegal (op : Byte) (s : State) : Host.Outcome State Fault Refusal :=
  .fault (.illegalOpcode op s.pc)

/-! ## Fetch (R14, R81) -/

/-- The instruction at PC. The three bytes are read at once: reads change nothing (R43), and no
data access precedes the fetch of an instruction's bytes (R84) (notes/assumptions/2.md). -/
def fetchInstr (s : State) : Instr :=
  decodeBytes (s.read s.pc) (s.read (s.pc + 1)) (s.read (s.pc + 2))

/-- The state with the bits `w` of an instruction of `nbits` bits stored at PC, in all the bytes the
longest instruction takes. -/
def placeTableWord (s : State) (nbits w : Nat) : State :=
  ((s.write s.pc (tableByte nbits w 0)).write (s.pc + 1) (tableByte nbits w 1)).write
    (s.pc + 2) (tableByte nbits w 2)

end Sys2Proof.Machine
end

