-- ==== Sys2Proof/Machine/Operands.lean ====
section
/-! DEFINITION. The addressing-mode resolver (40_engine_addressing.md rules R83, R86 to R97), the
base cycle counts (R100) and the page-crossing penalty (R95). -/

namespace Sys2Proof.Machine

/-! ## Effective addresses -/

/-- The address before the index of absolute,X, absolute,Y and (indirect),Y is added: the base whose
page R86 compares. In the other modes it is the effective address itself. -/
def baseAddr (m : MemMode) (s : State) : Addr :=
  match m with
  | .zp z => zeroPage z
  | .zpX z => zeroPage (z + s.x)
  | .zpY z => zeroPage (z + s.y)
  | .abs a => a
  | .absX b => b
  | .absY b => b
  | .indX z => readPtrZP s (z + s.x)
  | .indY z => readPtrZP s z

/-- The effective address of a memory mode (R90 to R94, R96, R97). -/
def effAddr (m : MemMode) (s : State) : Addr :=
  match m with
  | .absX _ => baseAddr m s + s.x.setWidth 16
  | .absY _ => baseAddr m s + s.y.setWidth 16
  | .indY _ => baseAddr m s + s.y.setWidth 16
  | .zp _ | .zpX _ | .zpY _ | .abs _ | .indX _ => baseAddr m s

/-- The `cross` bit a mode reports (R86, R90 to R97): false where no 16-bit index is added. -/
def crosses (m : MemMode) (s : State) : Bool := pageDiffers (baseAddr m s) (effAddr m s)

/-! ## Operand values and locations (R83) -/

/-- The operand value `M` of a read operand. -/
def readValue (o : ReadOperand) (s : State) : Byte :=
  match o with
  | .imm v => v
  | .mem m => s.read (effAddr m s)

/-- `Read(Loc)`. -/
def readLoc (l : Loc) (s : State) : Byte :=
  match l with
  | .acc => s.a
  | .mem m => s.read (effAddr m s)

/-- `Write(Loc, r)`. The effective address is the one of the state `s0` the operand was resolved in. -/
def writeLoc (l : Loc) (s0 : State) (r : Byte) (s : State) : State :=
  match l with
  | .acc => s.setA r
  | .mem m => s.write (effAddr m s0) r

/-! ## Cycle counts (R95, R100) -/

/-- Base count of a read-class memory mode (R100). -/
def readBase : MemMode → Nat
  | .zp _ => 3
  | .zpX _ | .zpY _ => 4
  | .abs _ => 4
  | .absX _ | .absY _ => 4
  | .indX _ => 6
  | .indY _ => 5

/-- The penalty of a read-class memory mode: 1 on a page crossing (R95). -/
def readPenalty (m : MemMode) (s : State) : Nat := if crosses m s then 1 else 0

/-- The count of a read-class instruction. -/
def readCycles (o : ReadOperand) (s : State) : Nat :=
  match o with
  | .imm _ => 2
  | .mem m => readBase m + readPenalty m s

/-- The count of a write-class instruction: no conditional cycle (R95, R100). -/
def storeCycles : MemMode → Nat
  | .zp _ => 3
  | .zpX _ | .zpY _ => 4
  | .abs _ => 4
  | .absX _ | .absY _ => 5
  | .indX _ => 6
  | .indY _ => 6

/-- The count of a read-modify-write instruction on memory: no conditional cycle (R95, R100). R100
has no count for the indirect modes, which no such instruction has (notes/assumptions/4.md). -/
def rmwCycles : MemMode → Nat
  | .zp _ => 5
  | .zpX _ | .zpY _ => 6
  | .abs _ => 6
  | .absX _ | .absY _ => 7
  | .indX _ | .indY _ => 0

/-- The count of a shift or rotate (R100). -/
def locCycles : Loc → Nat
  | .acc => 2
  | .mem m => rmwCycles m

/-! ## Where the operation of each class starts (R81, R85) -/

/-- After the fetch and resolution of a read operand. -/
def startRead (o : ReadOperand) (s : State) : State := s.start (1 + o.operandLength) (readCycles o s)

/-- After the fetch and resolution of a store's operand. -/
def startStore (m : MemMode) (s : State) : State := s.start (1 + m.operandLength) (storeCycles m)

/-- After the fetch and resolution of a memory operand that is modified. -/
def startRmw (m : MemMode) (s : State) : State := s.start (1 + m.operandLength) (rmwCycles m)

/-- After the fetch and resolution of a shift's location. -/
def startLoc (l : Loc) (s : State) : State := s.start (1 + l.operandLength) (locCycles l)

end Sys2Proof.Machine
end

