-- ==== Sys2Proof/Machine/Arith.lean ====
section
/-! DEFINITION. Arithmetic, logic, bit test and compare (42_arith_logic_compare.md). ADC and SBC are
binary whatever D holds (R140, R141, `P_DECIMAL` = Binary). -/

namespace Sys2Proof.Machine

/-- A <- the sum, with the flags of an addition. -/
def State.takeSum (s : State) (res : Byte × Bool × Bool) : State :=
  (s.setA res.1).mapFlags (Flags.afterAdd res)

/-- ADC (R140). -/
def execAdc (o : ReadOperand) (s : State) : Host.Outcome State Fault Refusal :=
  .next ((startRead o s).takeSum (addWithCarry s.a (readValue o s) s.flags.c))

/-- SBC: the same adder on the ones' complement of the operand (R141). -/
def execSbc (o : ReadOperand) (s : State) : Host.Outcome State Fault Refusal :=
  .next ((startRead o s).takeSum (addWithCarry s.a (~~~ readValue o s) s.flags.c))

/-- AND (R142). -/
def execAnd (o : ReadOperand) (s : State) : Host.Outcome State Fault Refusal :=
  .next (((startRead o s).setA (s.a &&& readValue o s)).setNZ (s.a &&& readValue o s))

/-- ORA (R143). -/
def execOra (o : ReadOperand) (s : State) : Host.Outcome State Fault Refusal :=
  .next (((startRead o s).setA (s.a ||| readValue o s)).setNZ (s.a ||| readValue o s))

/-- EOR (R144). -/
def execEor (o : ReadOperand) (s : State) : Host.Outcome State Fault Refusal :=
  .next (((startRead o s).setA (s.a ^^^ readValue o s)).setNZ (s.a ^^^ readValue o s))

/-- BIT (R145). -/
def execBit (m : MemMode) (s : State) : Host.Outcome State Fault Refusal :=
  .next ((startRead (.mem m) s).mapFlags (Flags.bitTest s.a (readValue (.mem m) s)))

/-- CMP (R146). -/
def execCmp (o : ReadOperand) (s : State) : Host.Outcome State Fault Refusal :=
  .next ((startRead o s).mapFlags (Flags.compare s.a (readValue o s)))

/-- CPX (R147). -/
def execCpx (o : ReadOperand) (s : State) : Host.Outcome State Fault Refusal :=
  .next ((startRead o s).mapFlags (Flags.compare s.x (readValue o s)))

/-- CPY (R148). -/
def execCpy (o : ReadOperand) (s : State) : Host.Outcome State Fault Refusal :=
  .next ((startRead o s).mapFlags (Flags.compare s.y (readValue o s)))

end Sys2Proof.Machine
end

