-- ==== Sys2Proof/Machine/Control.lean ====
section
/-! DEFINITION. Branches, jumps and subroutines (44_control_flow.md). No flag is written. -/

namespace Sys2Proof.Machine

/-- The target of a branch: PC past the branch plus the signed offset (R98, R180). -/
def branchTarget (pcAfter : Addr) (off : Byte) : Addr := pcAfter + off.signExtend 16

/-- The common branch operation (R180). -/
def branch (cond : Bool) (off : Byte) (s : State) : State :=
  let s2 := s.start 2 2
  let t := branchTarget s2.pc off
  if cond then (s2.addCycles (if pageDiffers s2.pc t then 2 else 1)).setPC t else s2

/-- BCC: not C (R181). -/
def execBcc (off : Byte) (s : State) : Host.Outcome State Fault Refusal := .next (branch (!s.flags.c) off s)

/-- BCS: C (R182). -/
def execBcs (off : Byte) (s : State) : Host.Outcome State Fault Refusal := .next (branch s.flags.c off s)

/-- BEQ: Z (R183). -/
def execBeq (off : Byte) (s : State) : Host.Outcome State Fault Refusal := .next (branch s.flags.z off s)

/-- BNE: not Z (R184). -/
def execBne (off : Byte) (s : State) : Host.Outcome State Fault Refusal := .next (branch (!s.flags.z) off s)

/-- BMI: N (R185). -/
def execBmi (off : Byte) (s : State) : Host.Outcome State Fault Refusal := .next (branch s.flags.n off s)

/-- BPL: not N (R186). -/
def execBpl (off : Byte) (s : State) : Host.Outcome State Fault Refusal := .next (branch (!s.flags.n) off s)

/-- BVC: not V (R187). -/
def execBvc (off : Byte) (s : State) : Host.Outcome State Fault Refusal := .next (branch (!s.flags.v) off s)

/-- BVS: V (R188). -/
def execBvs (off : Byte) (s : State) : Host.Outcome State Fault Refusal := .next (branch s.flags.v off s)

/-- JMP absolute (R189). -/
def execJmpAbs (target : Addr) (s : State) : Host.Outcome State Fault Refusal :=
  .next ((s.start 3 3).setPC target)

/-- JMP indirect (R190). -/
def execJmpInd (ptr : Addr) (s : State) : Host.Outcome State Fault Refusal :=
  .next ((s.start 3 5).setPC (jmpIndTarget s ptr))

/-- JSR: pushes the address of its last byte, high byte first (R191). -/
def execJsr (target : Addr) (s : State) : Host.Outcome State Fault Refusal :=
  let s3 := s.start 3 6
  let ret := s3.pc - 1
  .next (((s3.push (hiByte ret)).push (loByte ret)).setPC target)

/-- RTS: pulls the low byte, then the high byte, and adds one (R192). -/
def execRts (s : State) : Host.Outcome State Fault Refusal :=
  let (lo, s1) := (s.start 1 6).pull
  let (hi, s2) := s1.pull
  .next (s2.setPC (joinBytes hi lo + 1))

end Sys2Proof.Machine
end

