-- ==== Sys2Proof/Machine/LoadStore.lean ====
section
/-! DEFINITION. Loads, stores and register transfers (41_load_store_transfer.md). -/

namespace Sys2Proof.Machine

/-! ## Loads -/

/-- LDA (R120). -/
def execLda (o : ReadOperand) (s : State) : Host.Outcome State Fault Refusal :=
  .next (((startRead o s).setA (readValue o s)).setNZ (readValue o s))

/-- LDX (R121). -/
def execLdx (o : ReadOperand) (s : State) : Host.Outcome State Fault Refusal :=
  .next (((startRead o s).setX (readValue o s)).setNZ (readValue o s))

/-- LDY (R122). -/
def execLdy (o : ReadOperand) (s : State) : Host.Outcome State Fault Refusal :=
  .next (((startRead o s).setY (readValue o s)).setNZ (readValue o s))

/-! ## Stores: no flag is written -/

/-- STA (R123). -/
def execSta (m : MemMode) (s : State) : Host.Outcome State Fault Refusal :=
  .next ((startStore m s).write (effAddr m s) s.a)

/-- STX (R124). -/
def execStx (m : MemMode) (s : State) : Host.Outcome State Fault Refusal :=
  .next ((startStore m s).write (effAddr m s) s.x)

/-- STY (R125). -/
def execSty (m : MemMode) (s : State) : Host.Outcome State Fault Refusal :=
  .next ((startStore m s).write (effAddr m s) s.y)

/-! ## Register transfers -/

/-- TAX (R126). -/
def execTax (s : State) : Host.Outcome State Fault Refusal :=
  .next (((s.start 1 2).setX s.a).setNZ s.a)

/-- TAY (R127). -/
def execTay (s : State) : Host.Outcome State Fault Refusal :=
  .next (((s.start 1 2).setY s.a).setNZ s.a)

/-- TXA (R128). -/
def execTxa (s : State) : Host.Outcome State Fault Refusal :=
  .next (((s.start 1 2).setA s.x).setNZ s.x)

/-- TYA (R129). -/
def execTya (s : State) : Host.Outcome State Fault Refusal :=
  .next (((s.start 1 2).setA s.y).setNZ s.y)

/-- TSX: only SP[7:0] is copied (R130). -/
def execTsx (s : State) : Host.Outcome State Fault Refusal :=
  .next (((s.start 1 2).setX (loByte s.sp)).setNZ (loByte s.sp))

/-- TXS: SP <- 0x0100 | X, no flag written (R131). -/
def execTxs (s : State) : Host.Outcome State Fault Refusal :=
  .next ((s.start 1 2).setSP (0x0100 ||| s.x.setWidth 16))

end Sys2Proof.Machine
end

