-- ==== Sys2Proof/Machine/Shift.lean ====
section
/-! DEFINITION. Shifts, rotates, increments and decrements (43_shift_incdec.md). -/

namespace Sys2Proof.Machine

/-- A shift or rotate on a location: read, compute, write, then C, N and Z (R160 to R163). -/
def shiftLoc (op : ShiftOp) (l : Loc) (s : State) : State :=
  (writeLoc l s (op (readLoc l s) s.flags.c).1 (startLoc l s)).mapFlags
    (Flags.afterShift (op (readLoc l s) s.flags.c))

/-- ASL (R160). -/
def execAsl (l : Loc) (s : State) : Host.Outcome State Fault Refusal := .next (shiftLoc shiftAsl l s)

/-- LSR (R161). -/
def execLsr (l : Loc) (s : State) : Host.Outcome State Fault Refusal := .next (shiftLoc shiftLsr l s)

/-- ROL (R162). -/
def execRol (l : Loc) (s : State) : Host.Outcome State Fault Refusal := .next (shiftLoc shiftRol l s)

/-- ROR (R163). -/
def execRor (l : Loc) (s : State) : Host.Outcome State Fault Refusal := .next (shiftLoc shiftRor l s)

/-- A memory byte replaced by a function of it, then N and Z (R164, R165). -/
def modifyMem (f : Byte → Byte) (m : MemMode) (s : State) : State :=
  ((startRmw m s).write (effAddr m s) (f (s.read (effAddr m s)))).setNZ (f (s.read (effAddr m s)))

/-- INC (R164). -/
def execInc (m : MemMode) (s : State) : Host.Outcome State Fault Refusal := .next (modifyMem (· + 1) m s)

/-- DEC (R165). -/
def execDec (m : MemMode) (s : State) : Host.Outcome State Fault Refusal := .next (modifyMem (· - 1) m s)

/-- INX (R166). -/
def execInx (s : State) : Host.Outcome State Fault Refusal :=
  .next (((s.start 1 2).setX (s.x + 1)).setNZ (s.x + 1))

/-- INY (R167). -/
def execIny (s : State) : Host.Outcome State Fault Refusal :=
  .next (((s.start 1 2).setY (s.y + 1)).setNZ (s.y + 1))

/-- DEX (R168). -/
def execDex (s : State) : Host.Outcome State Fault Refusal :=
  .next (((s.start 1 2).setX (s.x - 1)).setNZ (s.x - 1))

/-- DEY (R169). -/
def execDey (s : State) : Host.Outcome State Fault Refusal :=
  .next (((s.start 1 2).setY (s.y - 1)).setNZ (s.y - 1))

end Sys2Proof.Machine
end

