-- ==== Sys2Proof/Machine/Stack.lean ====
section
/-! DEFINITION. Stack, flag and miscellaneous instructions, and the opcodes this core leaves
unimplemented (45_stack_flag_misc.md, 60_exceptions.md rule R220). -/

namespace Sys2Proof.Machine

/-! ## Stack -/

/-- PHA (R200). -/
def execPha (s : State) : Host.Outcome State Fault Refusal := .next ((s.start 1 3).push s.a)

/-- PHP (R201). -/
def execPhp (s : State) : Host.Outcome State Fault Refusal := .next ((s.start 1 3).push s.flags.packP)

/-- PLA (R202). -/
def execPla (s : State) : Host.Outcome State Fault Refusal :=
  let (v, s1) := (s.start 1 4).pull
  .next ((s1.setA v).setNZ v)

/-- PLP (R203). -/
def execPlp (s : State) : Host.Outcome State Fault Refusal :=
  let (v, s1) := (s.start 1 4).pull
  .next (s1.mapFlags fun _ => Flags.unpackP v)

/-! ## Flags -/

/-- CLC (R204). -/
def execClc (s : State) : Host.Outcome State Fault Refusal :=
  .next ((s.start 1 2).mapFlags fun f => { f with c := false })

/-- SEC (R205). -/
def execSec (s : State) : Host.Outcome State Fault Refusal :=
  .next ((s.start 1 2).mapFlags fun f => { f with c := true })

/-- CLI (R206). -/
def execCli (s : State) : Host.Outcome State Fault Refusal :=
  .next ((s.start 1 2).mapFlags fun f => { f with i := false })

/-- SEI (R207). -/
def execSei (s : State) : Host.Outcome State Fault Refusal :=
  .next ((s.start 1 2).mapFlags fun f => { f with i := true })

/-- CLV (R208). -/
def execClv (s : State) : Host.Outcome State Fault Refusal :=
  .next ((s.start 1 2).mapFlags fun f => { f with v := false })

/-- CLD (R209). -/
def execCld (s : State) : Host.Outcome State Fault Refusal :=
  .next ((s.start 1 2).mapFlags fun f => { f with d := false })

/-- SED (R210). -/
def execSed (s : State) : Host.Outcome State Fault Refusal :=
  .next ((s.start 1 2).mapFlags fun f => { f with d := true })

/-- NOP (R211). -/
def execNop (s : State) : Host.Outcome State Fault Refusal := .next (s.start 1 2)

/-! ## Unimplemented opcodes -/

/-- BRK takes the illegal-opcode outcome: it pushes nothing and reads no vector (R212). -/
def execBrk (s : State) : Host.Outcome State Fault Refusal := raiseIllegal 0x00 s

/-- RTI takes the illegal-opcode outcome: it pulls nothing (R213). -/
def execRti (s : State) : Host.Outcome State Fault Refusal := raiseIllegal 0x40 s

/-- An undocumented byte takes the illegal-opcode outcome (R66, R220). -/
def execIllegal (op : Byte) (s : State) : Host.Outcome State Fault Refusal := raiseIllegal op s

end Sys2Proof.Machine
end

