-- ==== Sys2Proof/Machine/Step.lean ====
section
/-! DEFINITION. One step of the execution driver (40_engine_addressing.md rules R81, R82), and the
placing of an instruction for it. -/

namespace Sys2Proof.Machine

/-- One Execute call: the instruction at PC, run to completion (R81, R82). -/
def step (s : State) : Host.Outcome State Fault Refusal := exec (fetchInstr s) s

/-- The state with an instruction's bits stored where `step` fetches next: at PC. It stands for the
host's loading of a program (R244, R247; notes/assumptions/6.md). -/
def State.withFetchWord (s : State) (nbits w : Nat) : State := placeTableWord s nbits w

end Sys2Proof.Machine
end

