-- ==== Sys2Proof/Machine/Interface.lean ====
section
/-! DEFINITION. The core's interface as a block: Construct, Reset, Execute, direct state access, and
the end of a run (70_reset_and_hazards.md rules R240, R241, R245 to R248). The host acts only
between steps (R53), so each of these is a function on a whole state. -/

namespace Sys2Proof.Machine

/-- `StepResult` (R80). -/
inductive StepResult where
  | ok (cycles : Nat)
  | illegalOpcode (op : Byte) (pc : Addr)
  /-- the model's own: a step refused by name, which no instruction of this model does -/
  | refused (r : Refusal)
  deriving DecidableEq, Repr

/-- `Execute(hint)`: one step; the hint is ignored (R80, R246). In the illegal-opcode outcome the
step's cycle count is 0 and nothing else differs (R220). -/
def execute (_hint : Nat) (s : State) : State × StepResult :=
  match step s with
  | .next t => (t, .ok t.cycles)
  | .fault (.illegalOpcode op pc) => ({ s with cycles := 0 }, .illegalOpcode op pc)
  | .refused r => (s, .refused r)

/-- `Construct()`: a core in the reset state (R241). -/
def construct : State := State.reset

/-- `Reset()`: whatever the state was (R240). -/
def resetOp (_s : State) : State := State.reset

/-- What the host can read and write directly (R247). -/
inductive Place where
  | a | x | y | sp | pc
  | n | v | d | i | z | c
  | irqPending | nmiPending
  | mem (addr : Addr)
  deriving DecidableEq, Repr

/-- A direct read; a flag or hook reads as 0 or 1 (R247). -/
def hostRead (s : State) : Place → Nat
  | .a => s.a.toNat
  | .x => s.x.toNat
  | .y => s.y.toNat
  | .sp => s.sp.toNat
  | .pc => s.pc.toNat
  | .n => s.flags.n.toNat
  | .v => s.flags.v.toNat
  | .d => s.flags.d.toNat
  | .i => s.flags.i.toNat
  | .z => s.flags.z.toNat
  | .c => s.flags.c.toNat
  | .irqPending => s.irqPending.toNat
  | .nmiPending => s.nmiPending.toNat
  | .mem addr => (s.read addr).toNat

/-- A direct write: the value is taken modulo the place's width (R20, R247). -/
def hostWrite (s : State) (p : Place) (value : Nat) : State :=
  match p with
  | .a => { s with a := BitVec.ofNat 8 value }
  | .x => { s with x := BitVec.ofNat 8 value }
  | .y => { s with y := BitVec.ofNat 8 value }
  | .sp => { s with sp := BitVec.ofNat 16 value }
  | .pc => { s with pc := BitVec.ofNat 16 value }
  | .n => s.mapFlags fun f => { f with n := value % 2 == 1 }
  | .v => s.mapFlags fun f => { f with v := value % 2 == 1 }
  | .d => s.mapFlags fun f => { f with d := value % 2 == 1 }
  | .i => s.mapFlags fun f => { f with i := value % 2 == 1 }
  | .z => s.mapFlags fun f => { f with z := value % 2 == 1 }
  | .c => s.mapFlags fun f => { f with c := value % 2 == 1 }
  | .irqPending => { s with irqPending := value % 2 == 1 }
  | .nmiPending => { s with nmiPending := value % 2 == 1 }
  | .mem addr => s.write addr (BitVec.ofNat 8 value)

/-- How a run ended (R248). -/
inductive RunEnd where
  /-- PC was the host's stop address before a step -/
  | atStop
  /-- Execute returned `IllegalOpcode(op, pc)` -/
  | illegalOpcode (op : Byte) (pc : Addr)
  /-- the model's own: a step was refused by name -/
  | refused (r : Refusal)
  /-- neither end was met within the given number of steps -/
  | unfinished
  deriving DecidableEq, Repr

/-- Execute called repeatedly until a run ends, at most `fuel` times: the last state, how the run
ended and the cycles its steps took in all (R246, R248). -/
def runTo (stop : Addr) : Nat → State → State × RunEnd × Nat
  | 0, s => (s, if s.pc = stop then .atStop else .unfinished, 0)
  | fuel + 1, s =>
    if s.pc = stop then (s, .atStop, 0)
    else
      match execute 0 s with
      | (t, .ok k) =>
        let (u, e, total) := runTo stop fuel t
        (u, e, k + total)
      | (t, .illegalOpcode op pc) => (t, .illegalOpcode op pc, 0)
      | (t, .refused r) => (t, .refused r, 0)

end Sys2Proof.Machine
end

