-- ==== Sys2Proof/Safety.lean ====
section
/-! DEFINITION. What counts as a safe run, and the terms the claims are stated in. -/

namespace Sys2Proof.Machine

/-- The byte is an implemented opcode: not one of the 107 bytes of 30_encoding.md rule R66. -/
def implemented (op : Byte) : Bool := !unimplementedBytes.contains op

/-- The next step runs an instruction to completion (60_exceptions.md rules R220, R222). -/
def SafeStep (s : State) : Prop := ∃ t, step s = .next t

/-- The next `n` steps all run to completion. -/
def SafeRun : Nat → State → Prop
  | 0, _ => True
  | n + 1, s => ∃ t, step s = .next t ∧ SafeRun n t

/-- The invariant of the model: memory is in canonical form. -/
abbrev State.Inv (s : State) : Prop := s.mem.wf

end Sys2Proof.Machine
end

