-- ==== Sys2Proof/Certificates/Slice0/Obligations.lean ====
section
/-! DEFINITION. The statements for the provers, and under `Sys2Proof.Claims` the terms they share.
The terms are arithmetic (values of bytes as numbers), so that a statement says again, in another
way, what the model computes on bits. Opcode bytes and cycle counts are the spec's (R65, R100, each
instruction's own table), which it marks as its decisions D3, D4 and D5; the flags an instruction
writes are those its own rule lists, which the spec marks as its decision D18. -/

namespace Sys2Proof.Claims

open Sys2Proof.Machine

/-- Z iff the result is 0, N iff its bit 7 is set, the other four flags kept (R17). -/
def nzOf (r : Byte) (f : Flags) : Flags :=
  { f with n := decide (128 ≤ r.toNat), z := decide (r.toNat = 0) }

/-- C iff the register is not below the operand, Z iff they are equal, N bit 7 of the difference
mod 256, the other three flags kept (R104). -/
def compareFlags (reg m : Byte) (f : Flags) : Flags :=
  { f with c := decide (m.toNat ≤ reg.toNat), z := decide (reg.toNat = m.toNat),
           n := decide (128 ≤ (reg.toNat + 256 - m.toNat) % 256) }

/-- The instruction is encoded by these bytes, and from every state it completes: the state is
`post s` with PC past the bytes and the cycle counter at `cyc s`. -/
def Completes (i : Instr) (bytes : List Byte) (cyc : State → Nat) (post : State → State) : Prop :=
  encode i = bytes ∧
    ∀ s, exec i s = .next { post s with pc := s.pc + BitVec.ofNat 16 bytes.length, cycles := cyc s }

/-- The instruction is encoded by these bytes, and from every state it completes and stores one
byte: at `addr s` the byte `v s`; every other address reads as before. The rest of the state is
`post s`, with PC past the bytes and the cycle counter at `cyc`. -/
def Stores (i : Instr) (bytes : List Byte) (cyc : Nat) (addr : State → Addr) (v : State → Byte)
    (post : State → State) : Prop :=
  encode i = bytes ∧
    ∀ s, ∃ t, exec i s = .next t ∧
      t = { post s with pc := s.pc + BitVec.ofNat 16 bytes.length, cycles := cyc, mem := t.mem } ∧
      ∀ k, t.read k = if k = addr s then v s else s.read k

/-- The conditional cycle of a read-class instruction (R95). -/
def crossCycle (m : MemMode) (s : State) : Nat := if crosses m s then 1 else 0

/-- The eight forms of the accumulator instructions with their opcode bytes, in the order of R65's
columns, each completing as `post` says of its operand, in the cycles of R100 and R95. -/
def AccForms (mk : ReadOperand → Instr) (imm zp zpX abs absX absY indX indY : Byte)
    (post : ReadOperand → State → State) : Prop :=
  ∀ b h l : Byte,
    Completes (mk (.imm b)) [imm, b] (fun _ => 2) (post (.imm b)) ∧
    Completes (mk (.mem (.zp b))) [zp, b] (fun _ => 3) (post (.mem (.zp b))) ∧
    Completes (mk (.mem (.zpX b))) [zpX, b] (fun _ => 4) (post (.mem (.zpX b))) ∧
    Completes (mk (.mem (.abs (joinBytes h l)))) [abs, h, l] (fun _ => 4)
      (post (.mem (.abs (joinBytes h l)))) ∧
    Completes (mk (.mem (.absX (joinBytes h l)))) [absX, h, l]
      (fun s => 4 + crossCycle (.absX (joinBytes h l)) s) (post (.mem (.absX (joinBytes h l)))) ∧
    Completes (mk (.mem (.absY (joinBytes h l)))) [absY, h, l]
      (fun s => 4 + crossCycle (.absY (joinBytes h l)) s) (post (.mem (.absY (joinBytes h l)))) ∧
    Completes (mk (.mem (.indX b))) [indX, b] (fun _ => 6) (post (.mem (.indX b))) ∧
    Completes (mk (.mem (.indY b))) [indY, b] (fun s => 5 + crossCycle (.indY b) s)
      (post (.mem (.indY b)))

/-- The forms of CPX and CPY: immediate, zero page, absolute. -/
def PlainForms (mk : ReadOperand → Instr) (imm zp abs : Byte)
    (post : ReadOperand → State → State) : Prop :=
  ∀ b h l : Byte,
    Completes (mk (.imm b)) [imm, b] (fun _ => 2) (post (.imm b)) ∧
    Completes (mk (.mem (.zp b))) [zp, b] (fun _ => 3) (post (.mem (.zp b))) ∧
    Completes (mk (.mem (.abs (joinBytes h l)))) [abs, h, l] (fun _ => 4)
      (post (.mem (.abs (joinBytes h l))))

/-- What a shift or rotate makes of an operand value and the old carry: the result and the bit
shifted out. -/
abbrev ShiftResult := Byte → Bool → Byte × Bool

/-- The flags after a shift or rotate of the value v: C the bit shifted out, N and Z of the result.
-/
def shiftFlags (res : ShiftResult) (v : Byte) (f : Flags) : Flags :=
  nzOf (res v f.c).1 { f with c := (res v f.c).2 }

/-- A memory form of a shift or rotate: the byte at the effective address becomes the result. -/
def ShiftsMemory (mk : Loc → Instr) (res : ShiftResult) (m : MemMode) (bytes : List Byte) (cyc : Nat) :
    Prop :=
  Stores (mk (.mem m)) bytes cyc (effAddr m) (fun s => (res (s.read (effAddr m s)) s.flags.c).1)
    (fun s => { s with flags := shiftFlags res (s.read (effAddr m s)) s.flags })

/-- The five forms of a shift or rotate: the accumulator form writes A, a memory form the byte at
its effective address. -/
def ShiftForms (mk : Loc → Instr) (acc zp zpX abs absX : Byte) (res : ShiftResult) : Prop :=
  Completes (mk .acc) [acc] (fun _ => 2)
    (fun s => { s with a := (res s.a s.flags.c).1, flags := shiftFlags res s.a s.flags }) ∧
  ∀ b h l : Byte,
    ShiftsMemory mk res (.zp b) [zp, b] 5 ∧
    ShiftsMemory mk res (.zpX b) [zpX, b] 6 ∧
    ShiftsMemory mk res (.abs (joinBytes h l)) [abs, h, l] 6 ∧
    ShiftsMemory mk res (.absX (joinBytes h l)) [absX, h, l] 7

/-- A form of INC or DEC: the byte at the effective address is replaced by `f` of it. -/
def ModifiesMemory (mk : MemMode → Instr) (f : Byte → Byte) (m : MemMode) (bytes : List Byte)
    (cyc : Nat) : Prop :=
  Stores (mk m) bytes cyc (effAddr m) (fun s => f (s.read (effAddr m s)))
    (fun s => { s with flags := nzOf (f (s.read (effAddr m s))) s.flags })

/-- The four forms of INC and DEC. -/
def ModifyForms (mk : MemMode → Instr) (zp zpX abs absX : Byte) (f : Byte → Byte) : Prop :=
  ∀ b h l : Byte,
    ModifiesMemory mk f (.zp b) [zp, b] 5 ∧
    ModifiesMemory mk f (.zpX b) [zpX, b] 6 ∧
    ModifiesMemory mk f (.abs (joinBytes h l)) [abs, h, l] 6 ∧
    ModifiesMemory mk f (.absX (joinBytes h l)) [absX, h, l] 7

/-- A form of a store: the register's byte at the effective address. -/
def StoresRegister (mk : MemMode → Instr) (reg : State → Byte) (m : MemMode) (bytes : List Byte)
    (cyc : Nat) : Prop :=
  Stores (mk m) bytes cyc (effAddr m) reg (fun s => s)

/-- A loaded with the operand value, N and Z of it. -/
def loadA (o : ReadOperand) (s : State) : State :=
  { s with a := readValue o s, flags := nzOf (readValue o s) s.flags }

/-- X loaded with the operand value, N and Z of it. -/
def loadX (o : ReadOperand) (s : State) : State :=
  { s with x := readValue o s, flags := nzOf (readValue o s) s.flags }

/-- Y loaded with the operand value, N and Z of it. -/
def loadY (o : ReadOperand) (s : State) : State :=
  { s with y := readValue o s, flags := nzOf (readValue o s) s.flags }

/-- A combined with the operand value by `f`, N and Z of the result. -/
def combineA (f : Byte → Byte → Byte) (o : ReadOperand) (s : State) : State :=
  { s with a := f s.a (readValue o s), flags := nzOf (f s.a (readValue o s)) s.flags }

/-- BIT's flags: Z from A and M, N and V from bits 7 and 6 of M. -/
def bitFlags (a m : Byte) (f : Flags) : Flags :=
  { f with
    z := decide ((a &&& m).toNat = 0)
    n := decide (128 ≤ m.toNat)
    v := decide (m.toNat / 64 % 2 = 1) }

/-- A byte plus 1, mod 256. -/
def plusOne (v : Byte) : Byte := BitVec.ofNat 8 ((v.toNat + 1) % 256)

/-- A byte minus 1, mod 256. -/
def minusOne (v : Byte) : Byte := BitVec.ofNat 8 ((v.toNat + 255) % 256)

/-- A one-byte instruction of two cycles that only makes `post s`. -/
def Implied (i : Instr) (op : Byte) (post : State → State) : Prop :=
  Completes i [op] (fun _ => 2) post

/-- The address two bytes past PC plus the signed offset, mod 65536 (R180). -/
def branchGoal (s : State) (off : Byte) : Addr := BitVec.ofInt 16 (s.pc.toNat + 2 + off.toInt)

/-- A branch with condition `cond`: encoded by two bytes; where the condition fails it goes on past
them in 2 cycles; where it holds it goes to that address plus the signed offset, in 3 cycles, or 4
where the target is on another page than the byte after the branch (R180). -/
def Branches (mk : Byte → Instr) (op : Byte) (cond : Flags → Bool) : Prop :=
  ∀ off : Byte, encode (mk off) = [op, off] ∧
    ∀ s : State,
      (cond s.flags = false → exec (mk off) s = .next { s with pc := s.pc + 2, cycles := 2 }) ∧
      (cond s.flags = true →
        exec (mk off) s = .next { s with
          pc := branchGoal s off
          cycles := if (branchGoal s off).toNat / 256 = (s.pc + 2).toNat / 256 then 3 else 4 })

/-- The sum of A, an operand and the carry, as a number. -/
def sumWithCarry (s : State) (m : Byte) : Nat := s.a.toNat + m.toNat + s.flags.c.toNat

/-- The same sum with A and the operand read as signed. -/
def signedSumWithCarry (s : State) (m : Byte) : Int := s.a.toInt + m.toInt + s.flags.c.toNat

/-- A minus an operand minus the borrow (1 where C is clear), as a number. -/
def diffWithBorrow (s : State) (m : Byte) : Int :=
  (s.a.toNat : Int) - m.toNat - (1 - s.flags.c.toNat)

/-- The same difference with A and the operand read as signed. -/
def signedDiffWithBorrow (s : State) (m : Byte) : Int :=
  s.a.toInt - m.toInt - (1 - s.flags.c.toNat)

/-- The number does not fit in a signed byte. -/
def outsideSignedByte (n : Int) : Bool := decide (n < -128 ∨ 127 < n)

/-- A after an addition with carry, and its flags: N, V, Z, C; D and I kept (R140). -/
def afterAdc (o : ReadOperand) (s : State) : State :=
  { s with
    a := BitVec.ofNat 8 (sumWithCarry s (readValue o s))
    flags := nzOf (BitVec.ofNat 8 (sumWithCarry s (readValue o s))) { s.flags with
      c := decide (255 < sumWithCarry s (readValue o s))
      v := outsideSignedByte (signedSumWithCarry s (readValue o s)) } }

/-- A after a subtraction with borrow, and its flags: N, V, Z, C; D and I kept (R141). -/
def afterSbc (o : ReadOperand) (s : State) : State :=
  { s with
    a := BitVec.ofInt 8 (diffWithBorrow s (readValue o s))
    flags := nzOf (BitVec.ofInt 8 (diffWithBorrow s (readValue o s))) { s.flags with
      c := decide (0 ≤ diffWithBorrow s (readValue o s))
      v := outsideSignedByte (signedDiffWithBorrow s (readValue o s)) } }

/-- The 16-bit pointer at p and p + 1 (mod 256) in page zero, low byte first, as a number (R15). -/
def zeroPagePointer (s : State) (p : Nat) : Nat :=
  (s.read (BitVec.ofNat 16 (p % 256))).toNat + 256 * (s.read (BitVec.ofNat 16 ((p + 1) % 256))).toNat

/-- The effective address of a mode as a number (R90 to R94, R96, R97). -/
def addressOf (m : MemMode) (s : State) : Nat :=
  match m with
  | .zp z => z.toNat
  | .zpX z => (z.toNat + s.x.toNat) % 256
  | .zpY z => (z.toNat + s.y.toNat) % 256
  | .abs a => a.toNat
  | .absX b => (b.toNat + s.x.toNat) % 65536
  | .absY b => (b.toNat + s.y.toNat) % 65536
  | .indX z => zeroPagePointer s (z.toNat + s.x.toNat)
  | .indY z => (zeroPagePointer s z.toNat + s.y.toNat) % 65536

/-- The address whose page is compared with that of the effective address: the 16-bit base of
absolute,X, absolute,Y and (indirect),Y; no other mode has one (R94, R97). -/
def indexedBase (m : MemMode) (s : State) : Option Nat :=
  match m with
  | .absX b | .absY b => some b.toNat
  | .indY z => some (zeroPagePointer s z.toNat)
  | .zp _ | .zpX _ | .zpY _ | .abs _ | .indX _ => none

/-- The 16-bit value with the given low and high bytes. -/
def wordOf (lo hi : Byte) : Addr := BitVec.ofNat 16 (256 * hi.toNat + lo.toNat)

/-- The six flags as PHP's byte, bits 5 and 4 set (R26). -/
def statusByte (f : Flags) : Nat :=
  128 * f.n.toNat + 64 * f.v.toNat + 48 + 8 * f.d.toNat + 4 * f.i.toNat + 2 * f.z.toNat + f.c.toNat

/-- The six flags from bits 7, 6, 3, 2, 1 and 0 of a byte (R26). -/
def statusFlags (b : Byte) : Flags :=
  { n := b.toNat / 128 % 2 == 1
    v := b.toNat / 64 % 2 == 1
    d := b.toNat / 8 % 2 == 1
    i := b.toNat / 4 % 2 == 1
    z := b.toNat / 2 % 2 == 1
    c := b.toNat % 2 == 1 }

/-- The next state of an outcome changed by a function; a fault or refusal is left as it is. -/
def mapNext (f : State → State) :
    Host.Outcome State Fault Refusal → Host.Outcome State Fault Refusal
  | .next t => .next (f t)
  | .fault r => .fault r
  | .refused r => .refused r

/-- A is written by: LDA, TXA, TYA, PLA, ADC, SBC, AND, ORA, EOR, and the accumulator forms of the
shifts and rotates (R21). -/
def writesA : Instr → Bool
  | .lda _ | .txa | .tya | .pla | .adc _ | .sbc _ | .and _ | .ora _ | .eor _ => true
  | .asl .acc | .lsr .acc | .rol .acc | .ror .acc => true
  | _ => false

/-- X is written by: LDX, TAX, TSX, INX, DEX (R22). -/
def writesX : Instr → Bool
  | .ldx _ | .tax | .tsx | .inx | .dex => true
  | _ => false

/-- Y is written by: LDY, TAY, INY, DEY (R23). -/
def writesY : Instr → Bool
  | .ldy _ | .tay | .iny | .dey => true
  | _ => false

/-- SP is written by: TXS, PHA, PHP, PLA, PLP, JSR, RTS (R24). -/
def writesSP : Instr → Bool
  | .txs | .pha | .php | .pla | .plp | .jsr _ | .rts => true
  | _ => false

/-- V is written by ADC, SBC, BIT, CLV and PLP (R28). -/
def writesV : Instr → Bool
  | .adc _ | .sbc _ | .bit _ | .clv | .plp => true
  | _ => false

/-- D is written by SED, CLD and PLP (R29). -/
def writesD : Instr → Bool
  | .sed | .cld | .plp => true
  | _ => false

/-- I is written by SEI, CLI and PLP (R30). -/
def writesI : Instr → Bool
  | .sei | .cli | .plp => true
  | _ => false

/-- C is written by ADC, SBC, CMP, CPX, CPY, the shifts and rotates, SEC, CLC and PLP (R32). -/
def writesC : Instr → Bool
  | .adc _ | .sbc _ | .cmp _ | .cpx _ | .cpy _ | .asl _ | .lsr _ | .rol _ | .ror _ => true
  | .sec | .clc | .plp => true
  | _ => false

/-- N and Z are written by every instruction with a result byte, the compares, BIT and PLP (R27,
R31). -/
def writesNZ : Instr → Bool
  | .lda _ | .ldx _ | .ldy _ | .tax | .tay | .txa | .tya | .tsx | .pla => true
  | .adc _ | .sbc _ | .and _ | .ora _ | .eor _ | .cmp _ | .cpx _ | .cpy _ => true
  | .asl _ | .lsr _ | .rol _ | .ror _ | .inc _ | .dec _ | .inx | .iny | .dex | .dey => true
  | .bit _ | .plp => true
  | _ => false

/-- Memory is written by the stores, the read-modify-write instructions on memory, and PHA, PHP and
JSR (R84, R16). -/
def writesMemory : Instr → Bool
  | .sta _ | .stx _ | .sty _ | .inc _ | .dec _ | .pha | .php | .jsr _ => true
  | .asl (.mem _) | .lsr (.mem _) | .rol (.mem _) | .ror (.mem _) => true
  | _ => false

/-- PC is more than advanced by the branches, JMP, JSR and RTS (R25, R85). -/
def transfersControl : Instr → Bool
  | .bcc _ | .bcs _ | .beq _ | .bne _ | .bmi _ | .bpl _ | .bvc _ | .bvs _ => true
  | .jmpAbs _ | .jmpInd _ | .jsr _ | .rts => true
  | _ => false

end Sys2Proof.Claims

open Sys2Proof Sys2Proof.Machine Sys2Proof.Claims

/-! ## Encoding -/

/-- R60 to R63, R65 (the spec's decisions D3, D4, D6): decoding the bytes of a well-formed
instruction, whatever follows them, gives it back with every operand, and leaves what follows. -/
def Obligations.DecodeOfEncodeGivesBack : Prop :=
  ∀ (i : Instr) (rest : List Byte), i.WellFormed = true → decode (encode i ++ rest) = .ok (i, rest)

/-- R60, R63, R66 (the spec's decisions D2, D3, D4): whatever three bytes stand there, they decode
to a well-formed instruction whose own bytes are the first of them, as many as the opcode byte alone
announces, one to three. -/
def Obligations.EncodeOfDecodeGivesBack : Prop :=
  ∀ b0 b1 b2 : Byte,
    (decodeBytes b0 b1 b2).WellFormed = true ∧
    encode (decodeBytes b0 b1 b2) = [b0, b1, b2].take (opcodeLength b0) ∧
    (decodeBytes b0 b1 b2).length = opcodeLength b0 ∧ 1 ≤ opcodeLength b0 ∧ opcodeLength b0 ≤ 3

/-- R70: the encodings the source gives: `A9 42` is LDA #$42, `90 FB` is BCC with offset -5, 0x00 is
BRK. -/
def Obligations.SourceEncodingsDecode : Prop :=
  decode [0xA9, 0x42] = .ok (.lda (.imm 0x42), []) ∧
  decode [0x90, 0xFB] = .ok (.bcc 0xFB, []) ∧ (0xFB : Byte).toInt = -5 ∧
  decode [0x00] = .ok (.brk, [])

/-! ## The step -/

/-- R81, R82: where the bytes at PC decode to an instruction, it is well-formed and the step is that
instruction's `exec` on the state as it stands; `step` adds nothing around it. Where they begin with
the encoding of a well-formed instruction, the step is that instruction's `exec`. -/
def Obligations.StepRunsTheDecodedInstruction : Prop :=
  (∀ (s : State) (i : Instr) (rest : List Byte),
    decode [s.read s.pc, s.read (s.pc + 1), s.read (s.pc + 2)] = .ok (i, rest) →
      i.WellFormed = true ∧ step s = exec i s) ∧
  (∀ (s : State) (i : Instr), i.WellFormed = true →
    (∀ k, k < (encode i).length → s.read (s.pc + BitVec.ofNat 16 k) = (encode i).getD k 0) →
      step s = exec i s)

/-- R220 (the spec's decisions D2, D3), R222, R223: a step faults exactly where the byte at PC is
one of the 107 of R66, and then with that byte and PC; in every other state it completes. -/
def Obligations.StepFaultsExactlyOnUnimplemented : Prop :=
  ∀ s : State,
    (s.read s.pc ∈ unimplementedBytes → step s = .fault (.illegalOpcode (s.read s.pc) s.pc)) ∧
    (s.read s.pc ∉ unimplementedBytes → ∃ t, step s = .next t)

/-- R220, R221 (the spec's decision D2): where the byte at PC is unimplemented, Execute returns
`IllegalOpcode(op, a)`, leaves everything but the cycle counter, which is 0, as it was, and the next
Execute returns the same. -/
def Obligations.IllegalOpcodeOutcomeRepeats : Prop :=
  ∀ (s : State) (hint hint' : Nat), s.read s.pc ∈ unimplementedBytes →
    execute hint s = ({ s with cycles := 0 }, .illegalOpcode (s.read s.pc) s.pc) ∧
    execute hint' (execute hint s).1 = execute hint s

/-- R212, R213, R220 (the spec's decisions D2, D3): BRK, RTI and the undocumented bytes stop with
the illegal-opcode outcome, from every state, naming their byte and PC. -/
def Obligations.UnimplementedInstructionsStop : Prop :=
  (encode .brk = [0x00] ∧ ∀ s, exec .brk s = .fault (.illegalOpcode 0x00 s.pc)) ∧
  (encode .rti = [0x40] ∧ ∀ s, exec .rti s = .fault (.illegalOpcode 0x40 s.pc)) ∧
  (∀ op, encode (.illegal op) = [op] ∧ ∀ s, exec (.illegal op) s = .fault (.illegalOpcode op s.pc))

/-- R80, R101 (the spec's decisions D5, D17, D19): a step that completes takes from 2 to 7 cycles,
and that is what Execute returns, whatever the hint. -/
def Obligations.StepTakesTwoToSevenCycles : Prop :=
  ∀ (s t : State) (hint : Nat), step s = .next t →
    2 ≤ t.cycles ∧ t.cycles ≤ 7 ∧ execute hint s = (t, .ok t.cycles)

/-- R35, R101 (the spec's decision D19): no state depends on the cycle counter: it is cleared at the
start of a step. -/
def Obligations.CycleCounterIsOnlyAnOutput : Prop :=
  ∀ (s : State) (k : Nat), step { s with cycles := k } = step s

/-- R33, R224 (the spec's decisions D14, D25): the step neither reads nor writes the pending hooks,
and Construct and Reset set both false. -/
def Obligations.PendingHooksAreInert : Prop :=
  (∀ (s : State) (p q : Bool),
    step { s with irqPending := p, nmiPending := q } =
      mapNext (fun t => { t with irqPending := p, nmiPending := q }) (step s)) ∧
  (∀ s, (resetOp s).irqPending = false ∧ (resetOp s).nmiPending = false) ∧
  construct.irqPending = false ∧ construct.nmiPending = false

/-- R24 (the spec's decisions D9, D10): no instruction sees SP[15:8]: steps from two states that
differ only there end alike, in states that agree but for SP[15:8]. -/
def Obligations.StackPointerHighByteIsInvisible : Prop :=
  ∀ (s : State) (high : Byte),
    (∀ t, step s = .next t →
      ∃ t', step { s with sp := joinBytes high (loByte s.sp) } = .next t' ∧
        loByte t'.sp = loByte t.sp ∧ { t' with sp := t.sp } = t) ∧
    (∀ r, step s = .fault r → step { s with sp := joinBytes high (loByte s.sp) } = .fault r)

/-- R29, R30, R140, R141, R224 (the spec's decisions D13, D14, D25): D and I gate nothing: with
either changed, every instruction but PHP does the same, and keeps the changed flag unless it is one
that writes it. -/
def Obligations.DecimalAndInterruptFlagsGateNothing : Prop :=
  ∀ (i : Instr) (s : State) (b : Bool), i ≠ .php →
    exec i { s with flags := { s.flags with d := b } } =
      mapNext (fun t => if writesD i then t else { t with flags := { t.flags with d := b } })
        (exec i s) ∧
    exec i { s with flags := { s.flags with i := b } } =
      mapNext (fun t => if writesI i then t else { t with flags := { t.flags with i := b } })
        (exec i s)

/-! ## Who writes what -/

/-- R21 to R24 (for SP the spec's decisions D9, D10): A, X, Y and SP are written only by the
instructions the rules list. -/
def Obligations.RegistersKeepUnlessListed : Prop :=
  ∀ (i : Instr) (s t : State), exec i s = .next t →
    (writesA i = false → t.a = s.a) ∧ (writesX i = false → t.x = s.x) ∧
    (writesY i = false → t.y = s.y) ∧ (writesSP i = false → t.sp = s.sp)

/-- R27 to R32: each flag is written only by the instructions its rule lists. These lists are the
spec's own decision D18, for D and I its decisions D13 and D25 (notes/assumptions/3.md). -/
def Obligations.FlagsKeepUnlessListed : Prop :=
  ∀ (i : Instr) (s t : State), exec i s = .next t →
    (writesNZ i = false → t.flags.n = s.flags.n ∧ t.flags.z = s.flags.z) ∧
    (writesV i = false → t.flags.v = s.flags.v) ∧ (writesD i = false → t.flags.d = s.flags.d) ∧
    (writesI i = false → t.flags.i = s.flags.i) ∧ (writesC i = false → t.flags.c = s.flags.c)

/-- R84, R16 (the spec's decisions D9, D15, D19): memory is written only by the stores, the
read-modify-write forms on memory and the pushes: every other instruction leaves every address
reading as before. -/
def Obligations.MemoryKeepsUnlessStoredTo : Prop :=
  ∀ (i : Instr) (s t : State), exec i s = .next t → writesMemory i = false →
    ∀ k, t.read k = s.read k

/-- R85 (the spec's own derivation): an instruction that completes and transfers no control leaves
PC at its address plus its length, mod 65536. -/
def Obligations.PlainInstructionsAdvancePC : Prop :=
  ∀ (i : Instr) (s t : State), exec i s = .next t → transfersControl i = false →
    t.pc.toNat = (s.pc.toNat + i.length) % 65536

/-! ## Memory -/

/-- R13, R40, R42, R43: a byte written is read back at its address and at no other; a read of a byte
no write reached in reset memory gives 0x00. -/
def Obligations.ReadAfterWrite : Prop :=
  (∀ (s : State) (a k : Addr) (v : Byte), (s.write a v).read k = if k = a then v else s.read k) ∧
  (∀ k, State.reset.read k = 0x00)

/-- The canonical form of the model's memory, a choice of the model (notes/assumptions/8.md): two
memories in it that read alike at all 65536 addresses are the same list. -/
def Obligations.CanonicalMemoriesThatReadAlikeAreEqual : Prop :=
  ∀ m m' : Memory, m.wf → m'.wf → (∀ k, k < 65536 → m.read k = m'.read k) → m = m'

/-- Every step that completes keeps the memory in canonical form (notes/assumptions/8.md). -/
def Obligations.StepKeepsMemoryCanonical : Prop :=
  ∀ s t : State, s.Inv → step s = .next t → t.Inv

/-- Reset memory is in canonical form (notes/assumptions/8.md). -/
def Obligations.ResetMemoryIsCanonical : Prop := State.reset.Inv

/-- R56 (the spec's reading, D15): a byte stored by STA at the address of the next instruction is
the opcode that the next step runs. -/
def Obligations.StoredByteIsFetchedNext : Prop :=
  ∀ (m : MemMode) (s t : State), exec (.sta m) s = .next t → effAddr m s = t.pc →
    step t = exec (decodeBytes s.a (t.read (t.pc + 1)) (t.read (t.pc + 2))) t

/-! ## Operands -/

/-- R90 to R94, R96, R97, R15: the effective address of each memory mode (the order of a pointer's
bytes is the spec's decision D7, that zero page,Y exists its decision D4). -/
def Obligations.EffectiveAddressesFollowTheModes : Prop :=
  ∀ (m : MemMode) (s : State), (effAddr m s).toNat = addressOf m s

/-- R86, R94, R96, R97 (the order of a pointer's bytes is the spec's decision D7): a mode reports a
page crossing exactly where it adds a 16-bit index to a base and the sum is on another page than the
base. -/
def Obligations.PageCrossingComparesPages : Prop :=
  ∀ (m : MemMode) (s : State),
    crosses m s = true ↔ ∃ base, indexedBase m s = some base ∧ base / 256 ≠ addressOf m s / 256

/-- R83, R89: the operand value of an immediate is its byte, of a memory operand the byte at its
effective address, of the accumulator A; a result is written to A, or to the byte at the effective
address of the state the operand was resolved in, and to nothing else. -/
def Obligations.OperandValues : Prop :=
  ∀ s : State,
    (∀ v, readValue (.imm v) s = v) ∧
    (∀ m, readValue (.mem m) s = s.read (BitVec.ofNat 16 (addressOf m s))) ∧
    readLoc .acc s = s.a ∧
    (∀ m, readLoc (.mem m) s = s.read (BitVec.ofNat 16 (addressOf m s))) ∧
    (∀ (r : Byte) (t : State), writeLoc .acc s r t = { t with a := r }) ∧
    (∀ (m : MemMode) (r : Byte) (t : State),
      writeLoc (.mem m) s r t = { t with mem := (writeLoc (.mem m) s r t).mem } ∧
      ∀ k : Addr, (writeLoc (.mem m) s r t).read k =
        if k.toNat = addressOf m s then r else t.read k)

/-- R16, R24, R50 (the spec's decision D9): stack addresses are 0x0100 plus SP's low byte; Push
writes there, then subtracts 1 from the whole SP; Pull adds 1, then reads there; nothing else
changes. -/
def Obligations.StackPrimitives : Prop :=
  (∀ sp : Addr, (stackAddr sp).toNat = 256 + sp.toNat % 256) ∧
  (∀ (s : State) (v : Byte),
    s.push v = { s with sp := s.sp - 1, mem := (s.push v).mem } ∧
    ∀ k, (s.push v).read k = if k = stackAddr s.sp then v else s.read k) ∧
  (∀ s : State, s.pull = (s.read (stackAddr (s.sp + 1)), { s with sp := s.sp + 1 }))

/-! ## The flag evaluator -/

/-- R103: the adder: sum mod 256, carry out of the 9-bit sum, and overflow where the operands have
one sign and the result the other, which is where the signed sum does not fit in a byte. -/
def Obligations.AdderResultCarryOverflow : Prop :=
  ∀ (a b : Byte) (cin : Bool),
    (addWithCarry a b cin).1.toNat = (a.toNat + b.toNat + cin.toNat) % 256 ∧
    (addWithCarry a b cin).2.1 = decide (255 < a.toNat + b.toNat + cin.toNat) ∧
    ((addWithCarry a b cin).2.2 = true ↔
      (128 ≤ a.toNat ↔ 128 ≤ b.toNat) ∧ ¬(128 ≤ (addWithCarry a b cin).1.toNat ↔ 128 ≤ a.toNat)) ∧
    (addWithCarry a b cin).2.2 = outsideSignedByte (a.toInt + b.toInt + cin.toNat)

/-- R26 (the spec's decisions D11, D12): PackP's byte, and UnpackP's flags, which ignore bits 5 and
4. -/
def Obligations.StatusByteLayout : Prop :=
  (∀ f : Flags, f.packP.toNat = statusByte f ∧ Flags.unpackP f.packP = f) ∧
  (∀ b : Byte, Flags.unpackP b = statusFlags b)

/-! ## Loads, stores, transfers -/

/-- R120: LDA, every form: A is the operand value, N and Z of it, nothing else. -/
def Obligations.LdaLoadsAccumulator : Prop :=
  AccForms .lda 0xA9 0xA5 0xB5 0xAD 0xBD 0xB9 0xA1 0xB1 loadA

/-- R121: LDX, every form: X is the operand value, N and Z of it, nothing else. -/
def Obligations.LdxLoadsX : Prop :=
  ∀ b h l : Byte,
    Completes (.ldx (.imm b)) [0xA2, b] (fun _ => 2) (loadX (.imm b)) ∧
    Completes (.ldx (.mem (.zp b))) [0xA6, b] (fun _ => 3) (loadX (.mem (.zp b))) ∧
    Completes (.ldx (.mem (.zpY b))) [0xB6, b] (fun _ => 4) (loadX (.mem (.zpY b))) ∧
    Completes (.ldx (.mem (.abs (joinBytes h l)))) [0xAE, h, l] (fun _ => 4)
      (loadX (.mem (.abs (joinBytes h l)))) ∧
    Completes (.ldx (.mem (.absY (joinBytes h l)))) [0xBE, h, l]
      (fun s => 4 + crossCycle (.absY (joinBytes h l)) s) (loadX (.mem (.absY (joinBytes h l))))

/-- R122: LDY, every form: Y is the operand value, N and Z of it, nothing else. -/
def Obligations.LdyLoadsY : Prop :=
  ∀ b h l : Byte,
    Completes (.ldy (.imm b)) [0xA0, b] (fun _ => 2) (loadY (.imm b)) ∧
    Completes (.ldy (.mem (.zp b))) [0xA4, b] (fun _ => 3) (loadY (.mem (.zp b))) ∧
    Completes (.ldy (.mem (.zpX b))) [0xB4, b] (fun _ => 4) (loadY (.mem (.zpX b))) ∧
    Completes (.ldy (.mem (.abs (joinBytes h l)))) [0xAC, h, l] (fun _ => 4)
      (loadY (.mem (.abs (joinBytes h l)))) ∧
    Completes (.ldy (.mem (.absX (joinBytes h l)))) [0xBC, h, l]
      (fun s => 4 + crossCycle (.absX (joinBytes h l)) s) (loadY (.mem (.absX (joinBytes h l))))

/-- R123: STA, every form: A at the effective address, no flag, a fixed count; no immediate form:
0x89 is unimplemented. -/
def Obligations.StaStoresAccumulator : Prop :=
  ∀ b h l : Byte,
    decodeBytes 0x89 h l = .illegal 0x89 ∧
    StoresRegister .sta (fun s => s.a) (.zp b) [0x85, b] 3 ∧
    StoresRegister .sta (fun s => s.a) (.zpX b) [0x95, b] 4 ∧
    StoresRegister .sta (fun s => s.a) (.abs (joinBytes h l)) [0x8D, h, l] 4 ∧
    StoresRegister .sta (fun s => s.a) (.absX (joinBytes h l)) [0x9D, h, l] 5 ∧
    StoresRegister .sta (fun s => s.a) (.absY (joinBytes h l)) [0x99, h, l] 5 ∧
    StoresRegister .sta (fun s => s.a) (.indX b) [0x81, b] 6 ∧
    StoresRegister .sta (fun s => s.a) (.indY b) [0x91, b] 6

/-- R124, R125: STX and STY, every form: the register at the effective address, no flag. -/
def Obligations.StxStyStoreIndexRegisters : Prop :=
  ∀ b h l : Byte,
    StoresRegister .stx (fun s => s.x) (.zp b) [0x86, b] 3 ∧
    StoresRegister .stx (fun s => s.x) (.zpY b) [0x96, b] 4 ∧
    StoresRegister .stx (fun s => s.x) (.abs (joinBytes h l)) [0x8E, h, l] 4 ∧
    StoresRegister .sty (fun s => s.y) (.zp b) [0x84, b] 3 ∧
    StoresRegister .sty (fun s => s.y) (.zpX b) [0x94, b] 4 ∧
    StoresRegister .sty (fun s => s.y) (.abs (joinBytes h l)) [0x8C, h, l] 4

/-- R126 to R129: TAX, TAY, TXA and TYA copy a register and set N and Z of the byte copied. -/
def Obligations.RegisterTransfers : Prop :=
  Implied .tax 0xAA (fun s => { s with x := s.a, flags := nzOf s.a s.flags }) ∧
  Implied .tay 0xA8 (fun s => { s with y := s.a, flags := nzOf s.a s.flags }) ∧
  Implied .txa 0x8A (fun s => { s with a := s.x, flags := nzOf s.x s.flags }) ∧
  Implied .tya 0x98 (fun s => { s with a := s.y, flags := nzOf s.y s.flags })

/-- R130, R131 (the spec's decisions D10, D18): TSX copies SP's low byte to X; TXS makes SP 0x0100
plus X and writes no flag. -/
def Obligations.StackPointerTransfers : Prop :=
  Implied .tsx 0xBA (fun s => { s with
    x := BitVec.ofNat 8 (s.sp.toNat % 256)
    flags := nzOf (BitVec.ofNat 8 (s.sp.toNat % 256)) s.flags }) ∧
  Implied .txs 0x9A (fun s => { s with sp := BitVec.ofNat 16 (256 + s.x.toNat) })

/-! ## Arithmetic, logic, compare -/

/-- R140: ADC, every form: A, the operand and the carry added mod 256, C the carry out, V the signed
overflow. Binary whatever D holds is the spec's own decision D13 (notes/assumptions/3.md). -/
def Obligations.AdcAddsWithCarry : Prop :=
  AccForms .adc 0x69 0x65 0x75 0x6D 0x7D 0x79 0x61 0x71 afterAdc

/-- R141: SBC, every form: the operand and the borrow subtracted from A mod 256, C set where no
borrow occurred, V the signed overflow. Binary whatever D holds is the spec's own decision D13
(notes/assumptions/3.md). -/
def Obligations.SbcSubtractsWithBorrow : Prop :=
  AccForms .sbc 0xE9 0xE5 0xF5 0xED 0xFD 0xF9 0xE1 0xF1 afterSbc

/-- R142 to R144: AND, ORA and EOR, every form: A combined bit by bit with the operand value, N and
Z of the result. -/
def Obligations.LogicOnAccumulator : Prop :=
  AccForms .and 0x29 0x25 0x35 0x2D 0x3D 0x39 0x21 0x31 (combineA fun a m => a &&& m) ∧
  AccForms .ora 0x09 0x05 0x15 0x0D 0x1D 0x19 0x01 0x11 (combineA fun a m => a ||| m) ∧
  AccForms .eor 0x49 0x45 0x55 0x4D 0x5D 0x59 0x41 0x51 (combineA fun a m => a ^^^ m)

/-- R145 (the spec's decision D3): BIT, both forms: Z from A and M, N and V from bits 7 and 6 of M,
A unchanged. -/
def Obligations.BitTestsMemory : Prop :=
  ∀ b h l : Byte,
    Completes (.bit (.zp b)) [0x24, b] (fun _ => 3)
      (fun s => { s with flags := bitFlags s.a (readValue (.mem (.zp b)) s) s.flags }) ∧
    Completes (.bit (.abs (joinBytes h l))) [0x2C, h, l] (fun _ => 4)
      (fun s => { s with flags := bitFlags s.a (readValue (.mem (.abs (joinBytes h l))) s) s.flags })

/-- R146 to R148: CMP, CPX and CPY, every form: only C, Z and N change. -/
def Obligations.ComparesWriteOnlyFlags : Prop :=
  AccForms .cmp 0xC9 0xC5 0xD5 0xCD 0xDD 0xD9 0xC1 0xD1
    (fun o s => { s with flags := compareFlags s.a (readValue o s) s.flags }) ∧
  PlainForms .cpx 0xE0 0xE4 0xEC
    (fun o s => { s with flags := compareFlags s.x (readValue o s) s.flags }) ∧
  PlainForms .cpy 0xC0 0xC4 0xCC
    (fun o s => { s with flags := compareFlags s.y (readValue o s) s.flags })

/-! ## Shifts, rotates, counts -/

/-- R160: ASL, every form: twice the value mod 256, C its bit 7. -/
def Obligations.AslShiftsLeft : Prop :=
  ShiftForms .asl 0x0A 0x06 0x16 0x0E 0x1E
    (fun v _ => (BitVec.ofNat 8 (2 * v.toNat), decide (128 ≤ v.toNat)))

/-- R161: LSR, every form: half the value, C its bit 0. -/
def Obligations.LsrShiftsRight : Prop :=
  ShiftForms .lsr 0x4A 0x46 0x56 0x4E 0x5E
    (fun v _ => (BitVec.ofNat 8 (v.toNat / 2), decide (v.toNat % 2 = 1)))

/-- R162: ROL, every form: the old carry enters bit 0, the old bit 7 becomes C. -/
def Obligations.RolRotatesLeft : Prop :=
  ShiftForms .rol 0x2A 0x26 0x36 0x2E 0x3E
    (fun v c => (BitVec.ofNat 8 (2 * v.toNat + c.toNat), decide (128 ≤ v.toNat)))

/-- R163: ROR, every form: the old carry enters bit 7, the old bit 0 becomes C. -/
def Obligations.RorRotatesRight : Prop :=
  ShiftForms .ror 0x6A 0x66 0x76 0x6E 0x7E
    (fun v c => (BitVec.ofNat 8 (v.toNat / 2 + 128 * c.toNat), decide (v.toNat % 2 = 1)))

/-- R164, R165 (the spec's decision D18): INC and DEC, every form: the byte at the effective address
plus or minus 1 mod 256, C and V kept. -/
def Obligations.IncDecModifyMemory : Prop :=
  ModifyForms .inc 0xE6 0xF6 0xEE 0xFE plusOne ∧ ModifyForms .dec 0xC6 0xD6 0xCE 0xDE minusOne

/-- R166 to R169: INX, INY, DEX and DEY: plus or minus 1 mod 256, N and Z of the result. -/
def Obligations.IndexRegistersCount : Prop :=
  Implied .inx 0xE8 (fun s => { s with x := plusOne s.x, flags := nzOf (plusOne s.x) s.flags }) ∧
  Implied .iny 0xC8 (fun s => { s with y := plusOne s.y, flags := nzOf (plusOne s.y) s.flags }) ∧
  Implied .dex 0xCA (fun s => { s with x := minusOne s.x, flags := nzOf (minusOne s.x) s.flags }) ∧
  Implied .dey 0x88 (fun s => { s with y := minusOne s.y, flags := nzOf (minusOne s.y) s.flags })

/-! ## Control flow -/

/-- R180 to R188: the eight branches: each tests one flag, goes on past its two bytes or to that
address plus the signed offset, in 2, 3 or 4 cycles, and writes no flag. -/
def Obligations.BranchesOnTheirFlag : Prop :=
  Branches .bcc 0x90 (fun f => !f.c) ∧ Branches .bcs 0xB0 (fun f => f.c) ∧
  Branches .beq 0xF0 (fun f => f.z) ∧ Branches .bne 0xD0 (fun f => !f.z) ∧
  Branches .bmi 0x30 (fun f => f.n) ∧ Branches .bpl 0x10 (fun f => !f.n) ∧
  Branches .bvc 0x50 (fun f => !f.v) ∧ Branches .bvs 0x70 (fun f => f.v)

/-- R189 (the spec's decision D6): JMP absolute goes to its operand, high byte first. -/
def Obligations.JmpAbsoluteGoesToOperand : Prop :=
  ∀ h l : Byte, encode (.jmpAbs (joinBytes h l)) = [0x4C, h, l] ∧
    ∀ s, exec (.jmpAbs (joinBytes h l)) s =
      .next { s with pc := BitVec.ofNat 16 (256 * h.toNat + l.toNat), cycles := 3 }

/-- R190 (the spec's decisions D6, D7, D8): JMP indirect: the destination's low byte at the pointer,
its high byte at the next address of the same page. -/
def Obligations.JmpIndirectReadsWithinPage : Prop :=
  ∀ h l : Byte, encode (.jmpInd (joinBytes h l)) = [0x6C, h, l] ∧
    ∀ s, exec (.jmpInd (joinBytes h l)) s =
      .next { s with
        pc := wordOf (s.read (BitVec.ofNat 16 (256 * h.toNat + l.toNat)))
          (s.read (BitVec.ofNat 16 (256 * h.toNat + (l.toNat + 1) % 256)))
        cycles := 5 }

/-- R191 (the spec's decisions D6, D9): JSR pushes the address of its last byte, high byte first,
and goes to its operand. -/
def Obligations.JsrPushesItsLastByte : Prop :=
  ∀ h l : Byte, encode (.jsr (joinBytes h l)) = [0x20, h, l] ∧
    ∀ s : State, ∃ t, exec (.jsr (joinBytes h l)) s = .next t ∧
      t = { s with pc := BitVec.ofNat 16 (256 * h.toNat + l.toNat), sp := s.sp - 2, cycles := 6, mem := t.mem } ∧
      ∀ k, t.read k =
        if k = stackAddr s.sp then BitVec.ofNat 8 ((s.pc + 2).toNat / 256)
        else if k = stackAddr (s.sp - 1) then BitVec.ofNat 8 ((s.pc + 2).toNat % 256)
        else s.read k

/-- R192: RTS pulls the low byte, then the high byte, and goes to that address plus 1; after a JSR
at a (the spec's own derivation, and its choice C1 of a + 3), from any state with the stack page and
SP as JSR left them, it goes to a + 3 and SP is what it was before the JSR. -/
def Obligations.RtsReturnsPastTheCall : Prop :=
  encode .rts = [0x60] ∧
  (∀ s : State, exec .rts s =
    .next { s with
      pc := wordOf (s.read (stackAddr (s.sp + 1))) (s.read (stackAddr (s.sp + 2))) + 1
      sp := s.sp + 2
      cycles := 6 }) ∧
  (∀ (target : Addr) (s t u : State), exec (.jsr target) s = .next t → u.sp = t.sp →
    (∀ sp, u.read (stackAddr sp) = t.read (stackAddr sp)) →
    ∃ w, exec .rts u = .next w ∧ w.pc = s.pc + 3 ∧ w.sp = s.sp)

/-! ## Stack and flags -/

/-- R200 (the spec's decision D9): PHA pushes A and writes no flag. -/
def Obligations.PhaPushesAccumulator : Prop :=
  Stores .pha [0x48] 3 (fun s => stackAddr s.sp) (fun s => s.a) (fun s => { s with sp := s.sp - 1 })

/-- R201 (the spec's decisions D11, D12): PHP pushes the status byte, bits 5 and 4 set, and writes
no flag. -/
def Obligations.PhpPushesStatusByte : Prop :=
  Stores .php [0x08] 3 (fun s => stackAddr s.sp) (fun s => BitVec.ofNat 8 (statusByte s.flags))
    (fun s => { s with sp := s.sp - 1 })

/-- R202 (the spec's decision D18): PLA pulls A and sets N and Z; after a PHA it gives back A and
SP. -/
def Obligations.PlaPullsAccumulator : Prop :=
  Completes .pla [0x68] (fun _ => 4) (fun s => { s with
    a := s.read (stackAddr (s.sp + 1))
    sp := s.sp + 1
    flags := nzOf (s.read (stackAddr (s.sp + 1))) s.flags }) ∧
  ∀ s t : State, exec .pha s = .next t → ∃ u, exec .pla t = .next u ∧ u.a = s.a ∧ u.sp = s.sp

/-- R203 (the spec's decision D11): PLP pulls all six flags; after a PHP it gives back the flags and
SP. -/
def Obligations.PlpPullsStatusByte : Prop :=
  Completes .plp [0x28] (fun _ => 4) (fun s =>
    { s with sp := s.sp + 1, flags := statusFlags (s.read (stackAddr (s.sp + 1))) }) ∧
  ∀ s t : State, exec .php s = .next t → ∃ u, exec .plp t = .next u ∧ u.flags = s.flags ∧ u.sp = s.sp

/-- R204 to R210: each flag instruction writes its one flag and nothing else. That SEI and CLI only
store I, and SED and CLD only D, is the spec's own decisions D25 and D13
(notes/assumptions/3.md). -/
def Obligations.FlagInstructionsWriteOneFlag : Prop :=
  Implied .clc 0x18 (fun s => { s with flags := { s.flags with c := false } }) ∧
  Implied .sec 0x38 (fun s => { s with flags := { s.flags with c := true } }) ∧
  Implied .cli 0x58 (fun s => { s with flags := { s.flags with i := false } }) ∧
  Implied .sei 0x78 (fun s => { s with flags := { s.flags with i := true } }) ∧
  Implied .clv 0xB8 (fun s => { s with flags := { s.flags with v := false } }) ∧
  Implied .cld 0xD8 (fun s => { s with flags := { s.flags with d := false } }) ∧
  Implied .sed 0xF8 (fun s => { s with flags := { s.flags with d := true } })

/-- R211 (the spec's decision D3): NOP changes nothing but PC and takes 2 cycles. -/
def Obligations.NopOnlyAdvances : Prop := Implied .nop 0xEA (fun s => s)

/-! ## Reset and the host -/

/-- R240 to R242: what Reset and Construct leave, whatever the state was. That the two hooks are
false is the spec's own decision D14, and that Construct leaves what Reset leaves is its decision
D21 (notes/assumptions/3.md). -/
def Obligations.ResetLeavesTheStatedValues : Prop :=
  (∀ s, resetOp s = construct) ∧
  construct.a = 0x00 ∧ construct.x = 0x00 ∧ construct.y = 0x00 ∧ construct.sp = 0x0100 ∧
  construct.pc = 0xFFFC ∧
  construct.flags = { n := false, v := false, d := false, i := false, z := false, c := false } ∧
  construct.irqPending = false ∧ construct.nmiPending = false ∧ construct.cycles = 0 ∧
  (∀ k, construct.read k = 0x00) ∧ construct = State.reset

/-- R243 (the spec's own derivation): the first Execute after Reset, with no host action, returns
`IllegalOpcode(0x00, 0xFFFC)` and changes no state. -/
def Obligations.FirstStepAfterResetIsIllegal : Prop :=
  step State.reset = .fault (.illegalOpcode 0x00 0xFFFC) ∧
  ∀ hint, execute hint State.reset = (State.reset, .illegalOpcode 0x00 0xFFFC)

/-- R247 (the spec's decision D16), R20: a direct write is read back modulo its place's width, and
every other place keeps its value. That a flag or a hook takes its value modulo 2 is the model's own
choice (notes/assumptions/12.md). -/
def Obligations.DirectWritesReadBack : Prop :=
  ∀ (s : State) (value : Nat),
    (∀ p ∈ [Place.a, .x, .y], hostRead (hostWrite s p value) p = value % 256) ∧
    (∀ p ∈ [Place.sp, .pc], hostRead (hostWrite s p value) p = value % 65536) ∧
    (∀ p ∈ [Place.n, .v, .d, .i, .z, .c, .irqPending, .nmiPending],
      hostRead (hostWrite s p value) p = value % 2) ∧
    (∀ k, hostRead (hostWrite s (.mem k) value) (.mem k) = value % 256) ∧
    (∀ p q, p ≠ q → hostRead (hostWrite s p value) q = hostRead s q)
end

