-- ==== Sys2Proof/Laws/Decode.lean ====
section
/-! SUPPORT. Bytes and words: splitting and joining, and the encoder's operand bytes. -/

namespace Sys2Proof

theorem toNat_joinBytes (h l : Byte) : (joinBytes h l).toNat = 256 * h.toNat + l.toNat := by
  have := l.isLt
  rw [joinBytes, BitVec.toNat_append h l, ← Nat.shiftLeft_add_eq_or_of_lt this, Nat.shiftLeft_eq]
  omega

theorem toNat_hiByte (v : Addr) : (hiByte v).toNat = v.toNat / 256 := by
  have := v.isLt
  simp only [hiByte, BitVec.extractLsb'_toNat, Nat.shiftRight_eq_div_pow]
  omega

theorem toNat_loByte (v : Addr) : (loByte v).toNat = v.toNat % 256 := by
  simp [loByte, BitVec.extractLsb'_toNat]

@[simp] theorem hiByte_joinBytes (h l : Byte) : hiByte (joinBytes h l) = h := by
  have := l.isLt
  apply BitVec.eq_of_toNat_eq
  rw [toNat_hiByte, toNat_joinBytes]
  omega

@[simp] theorem loByte_joinBytes (h l : Byte) : loByte (joinBytes h l) = l := by
  have := l.isLt
  apply BitVec.eq_of_toNat_eq
  rw [toNat_loByte, toNat_joinBytes]
  omega

@[simp] theorem joinBytes_hiByte_loByte (v : Addr) : joinBytes (hiByte v) (loByte v) = v := by
  apply BitVec.eq_of_toNat_eq
  rw [toNat_joinBytes, toNat_hiByte, toNat_loByte]
  omega

/-- At the spec's operand order the first operand byte is the high one (R46). -/
@[simp] theorem operandWord_eq (b1 b2 : Byte) : operandWord b1 b2 = joinBytes b1 b2 := rfl

@[simp] theorem operandOrder_split (v : Addr) :
    Config.operandOrder.split v = [hiByte v, loByte v] := rfl

/-- At the spec's pointer order the byte at the lower address is the low one (R47). -/
@[simp] theorem ptrOrder_join (lo hi : Byte) : Config.ptrOrder.join lo hi = joinBytes hi lo := rfl

/-! ## One lemma per instruction length for the decoder -/

theorem decode_one {op : Byte} (rest : List Byte) (h : opcodeLength op = 1) :
    decode (op :: rest) = .ok (decodeBytes op (rest.getD 0 0) (rest.getD 1 0), rest) := by
  simp [decode, h]

theorem decode_two {op : Byte} (b : Byte) (rest : List Byte) (h : opcodeLength op = 2) :
    decode (op :: b :: rest) = .ok (decodeBytes op b (rest.getD 0 0), rest) := by
  simp [decode, h]

theorem decode_three {op : Byte} (b c : Byte) (rest : List Byte) (h : opcodeLength op = 3) :
    decode (op :: b :: c :: rest) = .ok (decodeBytes op b c, rest) := by
  simp [decode, h]

/-- An undocumented byte has no entry in the opcode map (R64, R66). -/
theorem decodeBytes_undocumented (op b1 b2 : Byte) (h : undocumented op = true) :
    decodeBytes op b1 b2 = .illegal op := by
  have key : ∀ op : Byte, undocumented op = true →
      ((opcodeRow (op.toNat / 16)).lookup (op.toNat % 16)).isNone = true := by decide +kernel
  have := key op h
  rw [Option.isNone_iff_eq_none] at this
  simp [decodeBytes, this]

/-- A byte with no entry in the opcode map is undocumented (R64, R66). -/
theorem undocumented_of_lookup_none (op : Byte)
    (h : (opcodeRow (op.toNat / 16)).lookup (op.toNat % 16) = none) : undocumented op = true := by
  have key : ∀ op : Byte,
      ((opcodeRow (op.toNat / 16)).lookup (op.toNat % 16)).isNone = true → undocumented op = true := by
    decide +kernel
  exact key op (by rw [h]; rfl)

/-- What a lookup finds stands in the list. -/
theorem mem_of_lookup {α : Type} {k : Nat} {v : α} :
    ∀ {l : List (Nat × α)}, l.lookup k = some v → (k, v) ∈ l
  | [], h => by simp at h
  | (k', v') :: rest, h => by
    rw [List.lookup_cons] at h
    split at h
    · rename_i hk
      cases h
      simp [beq_iff_eq.mp hk]
    · exact List.mem_cons_of_mem _ (mem_of_lookup h)

/-- What three bytes decode to: an undocumented byte, or what an entry of a row of R64 makes of the
operand bytes, the opcode byte being that row's and that entry's. -/
theorem decodeBytes_cases (b0 b1 b2 : Byte) :
    (decodeBytes b0 b1 b2 = .illegal b0 ∧ undocumented b0 = true) ∨
      ∃ high low build, high < 16 ∧ (low, build) ∈ opcodeRow high ∧
        b0 = BitVec.ofNat 8 (16 * high + low) ∧ decodeBytes b0 b1 b2 = build b1 b2 := by
  cases h : (opcodeRow (b0.toNat / 16)).lookup (b0.toNat % 16) with
  | none => exact .inl ⟨by simp [decodeBytes, h], undocumented_of_lookup_none b0 h⟩
  | some build =>
    refine .inr ⟨_, _, build, by have := b0.isLt; omega, mem_of_lookup h, ?_, by simp [decodeBytes, h]⟩
    apply BitVec.eq_of_toNat_eq
    simp
    omega

/-! ## Operand bytes -/

theorem MemMode.length_operandBytes (m : MemMode) : m.operandBytes.length = m.operandLength := by
  cases m <;> rfl

theorem ReadOperand.length_operandBytes (o : ReadOperand) :
    o.operandBytes.length = o.operandLength := by
  cases o with
  | imm v => rfl
  | mem m => exact m.length_operandBytes

theorem Loc.length_operandBytes (l : Loc) : l.operandBytes.length = l.operandLength := by
  cases l with
  | acc => rfl
  | mem m => exact m.length_operandBytes

end Sys2Proof
end

