-- ==== Sys2Proof/Laws/State.lean ====
section
/-! SUPPORT. One lemma per field per state update, and what one byte reads as after each update that
leaves memory alone. -/

namespace Sys2Proof.Machine

/-! ### setA -/

@[simp] theorem State.setA_a (s : State) (v : Byte) : (s.setA v).a = v := rfl
@[simp] theorem State.setA_x (s : State) (v : Byte) : (s.setA v).x = s.x := rfl
@[simp] theorem State.setA_y (s : State) (v : Byte) : (s.setA v).y = s.y := rfl
@[simp] theorem State.setA_sp (s : State) (v : Byte) : (s.setA v).sp = s.sp := rfl
@[simp] theorem State.setA_pc (s : State) (v : Byte) : (s.setA v).pc = s.pc := rfl
@[simp] theorem State.setA_flags (s : State) (v : Byte) : (s.setA v).flags = s.flags := rfl
@[simp] theorem State.setA_irqPending (s : State) (v : Byte) : (s.setA v).irqPending = s.irqPending := rfl
@[simp] theorem State.setA_nmiPending (s : State) (v : Byte) : (s.setA v).nmiPending = s.nmiPending := rfl
@[simp] theorem State.setA_mem (s : State) (v : Byte) : (s.setA v).mem = s.mem := rfl
@[simp] theorem State.setA_cycles (s : State) (v : Byte) : (s.setA v).cycles = s.cycles := rfl
@[simp] theorem State.setA_read (s : State) (v : Byte) (k : Addr) : (s.setA v).read k = s.read k := rfl

/-! ### setX -/

@[simp] theorem State.setX_a (s : State) (v : Byte) : (s.setX v).a = s.a := rfl
@[simp] theorem State.setX_x (s : State) (v : Byte) : (s.setX v).x = v := rfl
@[simp] theorem State.setX_y (s : State) (v : Byte) : (s.setX v).y = s.y := rfl
@[simp] theorem State.setX_sp (s : State) (v : Byte) : (s.setX v).sp = s.sp := rfl
@[simp] theorem State.setX_pc (s : State) (v : Byte) : (s.setX v).pc = s.pc := rfl
@[simp] theorem State.setX_flags (s : State) (v : Byte) : (s.setX v).flags = s.flags := rfl
@[simp] theorem State.setX_irqPending (s : State) (v : Byte) : (s.setX v).irqPending = s.irqPending := rfl
@[simp] theorem State.setX_nmiPending (s : State) (v : Byte) : (s.setX v).nmiPending = s.nmiPending := rfl
@[simp] theorem State.setX_mem (s : State) (v : Byte) : (s.setX v).mem = s.mem := rfl
@[simp] theorem State.setX_cycles (s : State) (v : Byte) : (s.setX v).cycles = s.cycles := rfl
@[simp] theorem State.setX_read (s : State) (v : Byte) (k : Addr) : (s.setX v).read k = s.read k := rfl

/-! ### setY -/

@[simp] theorem State.setY_a (s : State) (v : Byte) : (s.setY v).a = s.a := rfl
@[simp] theorem State.setY_x (s : State) (v : Byte) : (s.setY v).x = s.x := rfl
@[simp] theorem State.setY_y (s : State) (v : Byte) : (s.setY v).y = v := rfl
@[simp] theorem State.setY_sp (s : State) (v : Byte) : (s.setY v).sp = s.sp := rfl
@[simp] theorem State.setY_pc (s : State) (v : Byte) : (s.setY v).pc = s.pc := rfl
@[simp] theorem State.setY_flags (s : State) (v : Byte) : (s.setY v).flags = s.flags := rfl
@[simp] theorem State.setY_irqPending (s : State) (v : Byte) : (s.setY v).irqPending = s.irqPending := rfl
@[simp] theorem State.setY_nmiPending (s : State) (v : Byte) : (s.setY v).nmiPending = s.nmiPending := rfl
@[simp] theorem State.setY_mem (s : State) (v : Byte) : (s.setY v).mem = s.mem := rfl
@[simp] theorem State.setY_cycles (s : State) (v : Byte) : (s.setY v).cycles = s.cycles := rfl
@[simp] theorem State.setY_read (s : State) (v : Byte) (k : Addr) : (s.setY v).read k = s.read k := rfl

/-! ### setSP -/

@[simp] theorem State.setSP_a (s : State) (v : Addr) : (s.setSP v).a = s.a := rfl
@[simp] theorem State.setSP_x (s : State) (v : Addr) : (s.setSP v).x = s.x := rfl
@[simp] theorem State.setSP_y (s : State) (v : Addr) : (s.setSP v).y = s.y := rfl
@[simp] theorem State.setSP_sp (s : State) (v : Addr) : (s.setSP v).sp = v := rfl
@[simp] theorem State.setSP_pc (s : State) (v : Addr) : (s.setSP v).pc = s.pc := rfl
@[simp] theorem State.setSP_flags (s : State) (v : Addr) : (s.setSP v).flags = s.flags := rfl
@[simp] theorem State.setSP_irqPending (s : State) (v : Addr) : (s.setSP v).irqPending = s.irqPending := rfl
@[simp] theorem State.setSP_nmiPending (s : State) (v : Addr) : (s.setSP v).nmiPending = s.nmiPending := rfl
@[simp] theorem State.setSP_mem (s : State) (v : Addr) : (s.setSP v).mem = s.mem := rfl
@[simp] theorem State.setSP_cycles (s : State) (v : Addr) : (s.setSP v).cycles = s.cycles := rfl
@[simp] theorem State.setSP_read (s : State) (v : Addr) (k : Addr) : (s.setSP v).read k = s.read k := rfl

/-! ### setPC -/

@[simp] theorem State.setPC_a (s : State) (v : Addr) : (s.setPC v).a = s.a := rfl
@[simp] theorem State.setPC_x (s : State) (v : Addr) : (s.setPC v).x = s.x := rfl
@[simp] theorem State.setPC_y (s : State) (v : Addr) : (s.setPC v).y = s.y := rfl
@[simp] theorem State.setPC_sp (s : State) (v : Addr) : (s.setPC v).sp = s.sp := rfl
@[simp] theorem State.setPC_pc (s : State) (v : Addr) : (s.setPC v).pc = v := rfl
@[simp] theorem State.setPC_flags (s : State) (v : Addr) : (s.setPC v).flags = s.flags := rfl
@[simp] theorem State.setPC_irqPending (s : State) (v : Addr) : (s.setPC v).irqPending = s.irqPending := rfl
@[simp] theorem State.setPC_nmiPending (s : State) (v : Addr) : (s.setPC v).nmiPending = s.nmiPending := rfl
@[simp] theorem State.setPC_mem (s : State) (v : Addr) : (s.setPC v).mem = s.mem := rfl
@[simp] theorem State.setPC_cycles (s : State) (v : Addr) : (s.setPC v).cycles = s.cycles := rfl
@[simp] theorem State.setPC_read (s : State) (v : Addr) (k : Addr) : (s.setPC v).read k = s.read k := rfl

/-! ### mapFlags -/

@[simp] theorem State.mapFlags_a (s : State) (f : Flags → Flags) : (s.mapFlags f).a = s.a := rfl
@[simp] theorem State.mapFlags_x (s : State) (f : Flags → Flags) : (s.mapFlags f).x = s.x := rfl
@[simp] theorem State.mapFlags_y (s : State) (f : Flags → Flags) : (s.mapFlags f).y = s.y := rfl
@[simp] theorem State.mapFlags_sp (s : State) (f : Flags → Flags) : (s.mapFlags f).sp = s.sp := rfl
@[simp] theorem State.mapFlags_pc (s : State) (f : Flags → Flags) : (s.mapFlags f).pc = s.pc := rfl
@[simp] theorem State.mapFlags_flags (s : State) (f : Flags → Flags) : (s.mapFlags f).flags = f s.flags := rfl
@[simp] theorem State.mapFlags_irqPending (s : State) (f : Flags → Flags) : (s.mapFlags f).irqPending = s.irqPending := rfl
@[simp] theorem State.mapFlags_nmiPending (s : State) (f : Flags → Flags) : (s.mapFlags f).nmiPending = s.nmiPending := rfl
@[simp] theorem State.mapFlags_mem (s : State) (f : Flags → Flags) : (s.mapFlags f).mem = s.mem := rfl
@[simp] theorem State.mapFlags_cycles (s : State) (f : Flags → Flags) : (s.mapFlags f).cycles = s.cycles := rfl
@[simp] theorem State.mapFlags_read (s : State) (f : Flags → Flags) (k : Addr) : (s.mapFlags f).read k = s.read k := rfl

/-! ### setNZ -/

@[simp] theorem State.setNZ_a (s : State) (r : Byte) : (s.setNZ r).a = s.a := rfl
@[simp] theorem State.setNZ_x (s : State) (r : Byte) : (s.setNZ r).x = s.x := rfl
@[simp] theorem State.setNZ_y (s : State) (r : Byte) : (s.setNZ r).y = s.y := rfl
@[simp] theorem State.setNZ_sp (s : State) (r : Byte) : (s.setNZ r).sp = s.sp := rfl
@[simp] theorem State.setNZ_pc (s : State) (r : Byte) : (s.setNZ r).pc = s.pc := rfl
@[simp] theorem State.setNZ_flags (s : State) (r : Byte) : (s.setNZ r).flags = Flags.setNZ r s.flags := rfl
@[simp] theorem State.setNZ_irqPending (s : State) (r : Byte) : (s.setNZ r).irqPending = s.irqPending := rfl
@[simp] theorem State.setNZ_nmiPending (s : State) (r : Byte) : (s.setNZ r).nmiPending = s.nmiPending := rfl
@[simp] theorem State.setNZ_mem (s : State) (r : Byte) : (s.setNZ r).mem = s.mem := rfl
@[simp] theorem State.setNZ_cycles (s : State) (r : Byte) : (s.setNZ r).cycles = s.cycles := rfl
@[simp] theorem State.setNZ_read (s : State) (r : Byte) (k : Addr) : (s.setNZ r).read k = s.read k := rfl

/-! ### addCycles -/

@[simp] theorem State.addCycles_a (s : State) (n : Nat) : (s.addCycles n).a = s.a := rfl
@[simp] theorem State.addCycles_x (s : State) (n : Nat) : (s.addCycles n).x = s.x := rfl
@[simp] theorem State.addCycles_y (s : State) (n : Nat) : (s.addCycles n).y = s.y := rfl
@[simp] theorem State.addCycles_sp (s : State) (n : Nat) : (s.addCycles n).sp = s.sp := rfl
@[simp] theorem State.addCycles_pc (s : State) (n : Nat) : (s.addCycles n).pc = s.pc := rfl
@[simp] theorem State.addCycles_flags (s : State) (n : Nat) : (s.addCycles n).flags = s.flags := rfl
@[simp] theorem State.addCycles_irqPending (s : State) (n : Nat) : (s.addCycles n).irqPending = s.irqPending := rfl
@[simp] theorem State.addCycles_nmiPending (s : State) (n : Nat) : (s.addCycles n).nmiPending = s.nmiPending := rfl
@[simp] theorem State.addCycles_mem (s : State) (n : Nat) : (s.addCycles n).mem = s.mem := rfl
@[simp] theorem State.addCycles_cycles (s : State) (n : Nat) : (s.addCycles n).cycles = s.cycles + n := rfl
@[simp] theorem State.addCycles_read (s : State) (n : Nat) (k : Addr) : (s.addCycles n).read k = s.read k := rfl

/-! ### start -/

@[simp] theorem State.start_a (s : State) (len cyc : Nat) : (s.start len cyc).a = s.a := rfl
@[simp] theorem State.start_x (s : State) (len cyc : Nat) : (s.start len cyc).x = s.x := rfl
@[simp] theorem State.start_y (s : State) (len cyc : Nat) : (s.start len cyc).y = s.y := rfl
@[simp] theorem State.start_sp (s : State) (len cyc : Nat) : (s.start len cyc).sp = s.sp := rfl
@[simp] theorem State.start_pc (s : State) (len cyc : Nat) : (s.start len cyc).pc = s.pc + BitVec.ofNat 16 len := rfl
@[simp] theorem State.start_flags (s : State) (len cyc : Nat) : (s.start len cyc).flags = s.flags := rfl
@[simp] theorem State.start_irqPending (s : State) (len cyc : Nat) : (s.start len cyc).irqPending = s.irqPending := rfl
@[simp] theorem State.start_nmiPending (s : State) (len cyc : Nat) : (s.start len cyc).nmiPending = s.nmiPending := rfl
@[simp] theorem State.start_mem (s : State) (len cyc : Nat) : (s.start len cyc).mem = s.mem := rfl
@[simp] theorem State.start_cycles (s : State) (len cyc : Nat) : (s.start len cyc).cycles = cyc := rfl
@[simp] theorem State.start_read (s : State) (len cyc : Nat) (k : Addr) : (s.start len cyc).read k = s.read k := rfl

/-! ### write -/

@[simp] theorem State.write_a (s : State) (k : Addr) (v : Byte) : (s.write k v).a = s.a := rfl
@[simp] theorem State.write_x (s : State) (k : Addr) (v : Byte) : (s.write k v).x = s.x := rfl
@[simp] theorem State.write_y (s : State) (k : Addr) (v : Byte) : (s.write k v).y = s.y := rfl
@[simp] theorem State.write_sp (s : State) (k : Addr) (v : Byte) : (s.write k v).sp = s.sp := rfl
@[simp] theorem State.write_pc (s : State) (k : Addr) (v : Byte) : (s.write k v).pc = s.pc := rfl
@[simp] theorem State.write_flags (s : State) (k : Addr) (v : Byte) : (s.write k v).flags = s.flags := rfl
@[simp] theorem State.write_irqPending (s : State) (k : Addr) (v : Byte) : (s.write k v).irqPending = s.irqPending := rfl
@[simp] theorem State.write_nmiPending (s : State) (k : Addr) (v : Byte) : (s.write k v).nmiPending = s.nmiPending := rfl
@[simp] theorem State.write_mem (s : State) (k : Addr) (v : Byte) : (s.write k v).mem = s.mem.write k.toNat v := rfl
@[simp] theorem State.write_cycles (s : State) (k : Addr) (v : Byte) : (s.write k v).cycles = s.cycles := rfl

/-! ### Flags -/

@[simp] theorem Flags.setNZ_n (f : Flags) (r : Byte) : (Flags.setNZ r f).n = r.getLsbD 7 := rfl
@[simp] theorem Flags.setNZ_v (f : Flags) (r : Byte) : (Flags.setNZ r f).v = f.v := rfl
@[simp] theorem Flags.setNZ_d (f : Flags) (r : Byte) : (Flags.setNZ r f).d = f.d := rfl
@[simp] theorem Flags.setNZ_i (f : Flags) (r : Byte) : (Flags.setNZ r f).i = f.i := rfl
@[simp] theorem Flags.setNZ_z (f : Flags) (r : Byte) : (Flags.setNZ r f).z = (r == 0) := rfl
@[simp] theorem Flags.setNZ_c (f : Flags) (r : Byte) : (Flags.setNZ r f).c = f.c := rfl

@[simp] theorem Flags.afterAdd_n (f : Flags) (res : Byte × Bool × Bool) : (Flags.afterAdd res f).n = res.1.getLsbD 7 := rfl
@[simp] theorem Flags.afterAdd_v (f : Flags) (res : Byte × Bool × Bool) : (Flags.afterAdd res f).v = res.2.2 := rfl
@[simp] theorem Flags.afterAdd_d (f : Flags) (res : Byte × Bool × Bool) : (Flags.afterAdd res f).d = f.d := rfl
@[simp] theorem Flags.afterAdd_i (f : Flags) (res : Byte × Bool × Bool) : (Flags.afterAdd res f).i = f.i := rfl
@[simp] theorem Flags.afterAdd_z (f : Flags) (res : Byte × Bool × Bool) : (Flags.afterAdd res f).z = (res.1 == 0) := rfl
@[simp] theorem Flags.afterAdd_c (f : Flags) (res : Byte × Bool × Bool) : (Flags.afterAdd res f).c = res.2.1 := rfl

@[simp] theorem Flags.compare_n (f : Flags) (reg m : Byte) : (Flags.compare reg m f).n = (reg - m).getLsbD 7 := rfl
@[simp] theorem Flags.compare_v (f : Flags) (reg m : Byte) : (Flags.compare reg m f).v = f.v := rfl
@[simp] theorem Flags.compare_d (f : Flags) (reg m : Byte) : (Flags.compare reg m f).d = f.d := rfl
@[simp] theorem Flags.compare_i (f : Flags) (reg m : Byte) : (Flags.compare reg m f).i = f.i := rfl
@[simp] theorem Flags.compare_z (f : Flags) (reg m : Byte) : (Flags.compare reg m f).z = (reg == m) := rfl
@[simp] theorem Flags.compare_c (f : Flags) (reg m : Byte) : (Flags.compare reg m f).c = decide (m ≤ reg) := rfl

@[simp] theorem Flags.bitTest_n (f : Flags) (a m : Byte) : (Flags.bitTest a m f).n = m.getLsbD 7 := rfl
@[simp] theorem Flags.bitTest_v (f : Flags) (a m : Byte) : (Flags.bitTest a m f).v = m.getLsbD 6 := rfl
@[simp] theorem Flags.bitTest_d (f : Flags) (a m : Byte) : (Flags.bitTest a m f).d = f.d := rfl
@[simp] theorem Flags.bitTest_i (f : Flags) (a m : Byte) : (Flags.bitTest a m f).i = f.i := rfl
@[simp] theorem Flags.bitTest_z (f : Flags) (a m : Byte) : (Flags.bitTest a m f).z = ((a &&& m) == 0) := rfl
@[simp] theorem Flags.bitTest_c (f : Flags) (a m : Byte) : (Flags.bitTest a m f).c = f.c := rfl

@[simp] theorem Flags.afterShift_n (f : Flags) (res : Byte × Bool) : (Flags.afterShift res f).n = res.1.getLsbD 7 := rfl
@[simp] theorem Flags.afterShift_v (f : Flags) (res : Byte × Bool) : (Flags.afterShift res f).v = f.v := rfl
@[simp] theorem Flags.afterShift_d (f : Flags) (res : Byte × Bool) : (Flags.afterShift res f).d = f.d := rfl
@[simp] theorem Flags.afterShift_i (f : Flags) (res : Byte × Bool) : (Flags.afterShift res f).i = f.i := rfl
@[simp] theorem Flags.afterShift_z (f : Flags) (res : Byte × Bool) : (Flags.afterShift res f).z = (res.1 == 0) := rfl
@[simp] theorem Flags.afterShift_c (f : Flags) (res : Byte × Bool) : (Flags.afterShift res f).c = res.2 := rfl

end Sys2Proof.Machine
end

