-- ==== Sys2Proof/Laws/Flags.lean ====
section
/-! SUPPORT. Bits of a byte, and the parts of the flag computations, in terms of numbers. -/

namespace Sys2Proof.Machine

theorem getLsbD_seven (r : Byte) : r.getLsbD 7 = decide (128 ≤ r.toNat) := by
  revert r; decide +kernel

theorem getLsbD_six (r : Byte) : r.getLsbD 6 = decide (r.toNat / 64 % 2 = 1) := by
  revert r; decide +kernel

theorem getLsbD_zero (r : Byte) : r.getLsbD 0 = decide (r.toNat % 2 = 1) := by
  revert r; decide +kernel

theorem beq_zero (r : Byte) : (r == 0) = decide (r.toNat = 0) := by
  revert r; decide +kernel

theorem toNat_bit8 (t : Bool) : (bit8 t).toNat = t.toNat := by cases t <;> rfl

/-- N and Z of a result as numbers (R17). -/
theorem Flags.setNZ_eq (r : Byte) (f : Flags) :
    Flags.setNZ r f = { f with n := decide (128 ≤ r.toNat), z := decide (r.toNat = 0) } := by
  rw [← getLsbD_seven, ← beq_zero]; rfl

/-- The 9-bit sum of the adder never wraps (R103: "at most 0x1FF"). -/
theorem toNat_nineBitSum (a b : Byte) (cin : Bool) :
    (a.setWidth 9 + b.setWidth 9 + (bit8 cin).setWidth 9 : BitVec 9).toNat =
      a.toNat + b.toNat + cin.toNat := by
  have := a.isLt
  have := b.isLt
  have := Bool.toNat_le cin
  simp only [BitVec.toNat_add, BitVec.toNat_setWidth, toNat_bit8]
  omega

/-- The sum byte and the carry of the adder as numbers (R103). -/
theorem addWithCarry_sum (a b : Byte) (cin : Bool) :
    (addWithCarry a b cin).1.toNat = (a.toNat + b.toNat + cin.toNat) % 256 := by
  simp only [addWithCarry, BitVec.toNat_setWidth, toNat_nineBitSum]

theorem addWithCarry_carry (a b : Byte) (cin : Bool) :
    (addWithCarry a b cin).2.1 = decide (255 < a.toNat + b.toNat + cin.toNat) := by
  simp only [addWithCarry, BitVec.lt_def, toNat_nineBitSum]
  rfl

theorem addWithCarry_overflow (a b : Byte) (cin : Bool) :
    (addWithCarry a b cin).2.2 =
      ((a.getLsbD 7 == b.getLsbD 7) && ((addWithCarry a b cin).1.getLsbD 7 != a.getLsbD 7)) := rfl

end Sys2Proof.Machine
end

