-- ==== Sys2Proof/Laws/Memory.lean ====
section
/-! SUPPORT. The laws of memory: a read after a write, and that a write keeps the canonical form. -/

namespace Sys2Proof.Machine

/-! ## Read after write -/

theorem Memory.read_erase (m : Memory) (key k : Nat) :
    (m.erase key).read k = if k = key then Memory.unlisted else m.read k := by
  induction m with
  | nil => simp [Memory.erase, Memory.read]
  | cons c rest ih =>
    obtain ⟨j, w⟩ := c
    simp only [Memory.erase] at ih ⊢
    rw [List.filter_cons]
    by_cases hj : j = key
    · subst hj
      by_cases hk : k = j
      · simpa [hk] using ih
      · simp [ih, hk, Memory.read, Ne.symm hk]
    · by_cases hk : k = key
      · subst hk; simp_all [Memory.read]
      · simp [hj, hk, Memory.read, ih]

theorem Memory.read_insert (m : Memory) (key : Nat) (v : Byte) (k : Nat)
    (h : ∀ c ∈ m, c.1 ≠ key) : (m.insert key v).read k = if k = key then v else m.read k := by
  induction m with
  | nil => simp [Memory.insert, Memory.read, eq_comm]
  | cons c rest ih =>
    obtain ⟨j, w⟩ := c
    have hj : j ≠ key := h (j, w) (by simp)
    have ih := ih fun c hc => h c (by simp [hc])
    by_cases hlt : key < j
    · simp [Memory.insert, hlt, Memory.read, eq_comm]
    · by_cases hk : k = key
      · subst hk; simp [Memory.insert, hlt, Memory.read, ih, hj]
      · simp [Memory.insert, hlt, Memory.read, ih, hk]

/-- Every byte after a write. -/
theorem Memory.read_write (m : Memory) (key k : Nat) (v : Byte) :
    (m.write key v).read k = if k = key then v else m.read k := by
  unfold Memory.write
  split
  · next h => rw [Memory.read_erase, h]
  · rw [Memory.read_insert _ _ _ _ (by simp [Memory.erase]), Memory.read_erase]
    split <;> rfl

/-- Every byte after a `MemWrite`. -/
theorem State.read_write (s : State) (a k : Addr) (v : Byte) :
    (s.write a v).read k = if k = a then v else s.read k := by
  simp [State.read, Memory.read_write, BitVec.toNat_inj]

/-! ## The canonical form -/

theorem Memory.mem_insert {m : Memory} {key : Nat} {v : Byte} {c : Host.Cell}
    (h : c ∈ m.insert key v) : c = (key, v) ∨ c ∈ m := by
  induction m with
  | nil => simpa [Memory.insert] using h
  | cons d rest ih =>
    obtain ⟨j, w⟩ := d
    simp only [Memory.insert] at h
    split at h
    · simpa using h
    · rcases List.mem_cons.1 h with rfl | h
      · simp
      · rcases ih h with h | h <;> simp [h]

theorem Memory.erase_wf {m : Memory} (key : Nat) (h : m.wf) : (m.erase key).wf :=
  ⟨h.1.sublist List.filter_sublist, fun c hc => h.2 c (List.mem_filter.1 hc).1⟩

theorem Memory.insert_pairwise {m : Memory} {key : Nat} {v : Byte}
    (h : m.Pairwise fun c d => c.1 < d.1) (hk : ∀ c ∈ m, c.1 ≠ key) :
    (m.insert key v).Pairwise fun c d => c.1 < d.1 := by
  induction m with
  | nil => simp [Memory.insert]
  | cons d rest ih =>
    obtain ⟨j, w⟩ := d
    have hrest := List.pairwise_cons.1 h
    have hj : j ≠ key := hk (j, w) (by simp)
    simp only [Memory.insert]
    split
    · next hlt =>
      refine List.pairwise_cons.2 ⟨fun c hc => ?_, h⟩
      rcases List.mem_cons.1 hc with rfl | hc
      · exact hlt
      · exact Nat.lt_trans hlt (hrest.1 c hc)
    · next hlt =>
      refine List.pairwise_cons.2 ⟨fun c hc => ?_, ih hrest.2 fun c hc => hk c (by simp [hc])⟩
      rcases Memory.mem_insert hc with rfl | hc
      · simp only; omega
      · exact hrest.1 c hc

/-- A write to one of the 65536 addresses keeps the canonical form. -/
theorem Memory.write_wf {m : Memory} {key : Nat} (v : Byte) (h : m.wf) (hkey : key < 65536) :
    (m.write key v).wf := by
  unfold Memory.write
  split
  · exact Memory.erase_wf key h
  · next hv =>
    have he := Memory.erase_wf key h
    refine ⟨Memory.insert_pairwise he.1 (by simp [Memory.erase]), fun c hc => ?_⟩
    rcases Memory.mem_insert hc with rfl | hc
    · exact ⟨hkey, hv⟩
    · exact he.2 c hc

/-- A `MemWrite` keeps the canonical form. -/
theorem State.write_wf {s : State} (a : Addr) (v : Byte) (h : s.mem.wf) : (s.write a v).mem.wf :=
  Memory.write_wf v h a.isLt

/-- A key below every cell reads as unlisted. -/
theorem Memory.read_of_lt_all {m : Memory} {k : Nat} (h : ∀ c ∈ m, k < c.1) :
    m.read k = Memory.unlisted := by
  induction m with
  | nil => rfl
  | cons d rest ih =>
    have := h d (by simp)
    simp only [Memory.read]
    rw [if_neg (by omega), ih fun c hc => h c (by simp [hc])]

end Sys2Proof.Machine
end

