-- ==== Sys2Proof/Laws/Ops.lean ====
section
/-! SUPPORT. What each shared operation does, said once: pointers, the stack, effective addresses,
cycle counts, locations. -/

namespace Sys2Proof.Machine

/-! ## Cycle counts of read-class modes -/

@[simp] theorem crosses_zp (z : Byte) (s : State) : crosses (.zp z) s = false := by
  simp [crosses, pageDiffers, effAddr]

@[simp] theorem crosses_zpX (z : Byte) (s : State) : crosses (.zpX z) s = false := by
  simp [crosses, pageDiffers, effAddr]

@[simp] theorem crosses_zpY (z : Byte) (s : State) : crosses (.zpY z) s = false := by
  simp [crosses, pageDiffers, effAddr]

@[simp] theorem crosses_abs (a : Addr) (s : State) : crosses (.abs a) s = false := by
  simp [crosses, pageDiffers, effAddr]

@[simp] theorem crosses_indX (z : Byte) (s : State) : crosses (.indX z) s = false := by
  simp [crosses, pageDiffers, effAddr]

/-- The count of a read-class memory mode: its base, and one more where it crosses a page. -/
theorem readCycles_mem (m : MemMode) (s : State) :
    readCycles (.mem m) s = readBase m + if crosses m s then 1 else 0 := rfl

/-- A read-class instruction takes from 2 to 6 cycles. -/
theorem readCycles_bounds (o : ReadOperand) (s : State) : 2 ≤ readCycles o s ∧ readCycles o s ≤ 6 := by
  cases o with
  | imm v => simp [readCycles]
  | mem m =>
    rw [readCycles_mem]
    cases m <;> simp [readBase] <;> split <;> simp

/-- A store takes from 3 to 6 cycles. -/
theorem storeCycles_bounds (m : MemMode) : 3 ≤ storeCycles m ∧ storeCycles m ≤ 6 := by
  cases m <;> simp [storeCycles]

/-- A well-formed read-modify-write form on memory takes from 5 to 7 cycles. -/
theorem rmwCycles_bounds {m : MemMode} (h : m.inXColumns = true) : 5 ≤ rmwCycles m ∧ rmwCycles m ≤ 7 := by
  cases m <;> simp_all [rmwCycles, MemMode.inXColumns]

/-- A well-formed shift or rotate takes from 2 to 7 cycles. -/
theorem locCycles_bounds {l : Loc} (h : l.accOr MemMode.inXColumns = true) :
    2 ≤ locCycles l ∧ locCycles l ≤ 7 := by
  cases l with
  | acc => simp [locCycles]
  | mem m =>
    have := rmwCycles_bounds (m := m) h
    simp only [locCycles]
    omega

/-! ## The stack -/

/-- All of a push: SP less one, and one byte stored at the stack address of the old SP. -/
theorem State.push_eq (s : State) (v : Byte) :
    s.push v = { s with sp := s.sp - 1, mem := s.mem.write (stackAddr s.sp).toNat v } := rfl

/-- Every byte after a push. -/
theorem State.push_read (s : State) (v : Byte) (k : Addr) :
    (s.push v).read k = if k = stackAddr s.sp then v else s.read k :=
  State.read_write s (stackAddr s.sp) k v

/-- All of a pull: SP plus one, and the byte at the stack address of the new SP. -/
theorem State.pull_eq (s : State) :
    s.pull = (s.read (stackAddr (s.sp + 1)), { s with sp := s.sp + 1 }) := rfl

/-- A push keeps the canonical form of memory. -/
theorem State.push_wf {s : State} (v : Byte) (h : s.mem.wf) : (s.push v).mem.wf :=
  State.write_wf (stackAddr s.sp) v h

/-! ## Locations -/

/-- A write to a location changes A or one byte. -/
theorem writeLoc_acc (s0 s : State) (r : Byte) : writeLoc .acc s0 r s = s.setA r := rfl

theorem writeLoc_mem (m : MemMode) (s0 s : State) (r : Byte) :
    writeLoc (.mem m) s0 r s = s.write (effAddr m s0) r := rfl

/-- A write to a location keeps the canonical form of memory. -/
theorem writeLoc_wf (l : Loc) (s0 : State) (r : Byte) {s : State} (h : s.mem.wf) :
    (writeLoc l s0 r s).mem.wf := by
  cases l with
  | acc => exact h
  | mem m => exact State.write_wf _ _ h

/-! ## Pointers -/

/-- A zero-page pointer is its two bytes, low byte first (R15, R47). -/
theorem readPtrZP_eq (s : State) (p : Byte) :
    readPtrZP s p = joinBytes (s.read (zeroPage (p + 1))) (s.read (zeroPage p)) := rfl

theorem jmpPtrSecond_eq (ptr : Addr) :
    jmpPtrSecond ptr = joinBytes (hiByte ptr) (loByte ptr + 1) := rfl

theorem jmpIndTarget_eq (s : State) (ptr : Addr) :
    jmpIndTarget s ptr = joinBytes (s.read (jmpPtrSecond ptr)) (s.read ptr) := rfl

end Sys2Proof.Machine
end

