-- ==== Sys2Proof/Laws/Exec.lean ====
section
/-! SUPPORT. What `exec` can answer, said once: outcomes, branches, and what happens to memory. -/

namespace Sys2Proof.Machine

/-- Two next states are equal where the outcomes are. -/
theorem next_eq {s t : State} (h : (.next s : Host.Outcome State Fault Refusal) = .next t) : t = s := by
  cases h; rfl

theorem fault_ne_next {r : Fault} {t : State}
    (h : (.fault r : Host.Outcome State Fault Refusal) = .next t) : False := by
  cases h

/-- A branch that is not taken (R180). -/
@[simp] theorem branch_false (off : Byte) (s : State) : branch false off s = s.start 2 2 := rfl

/-- A branch that is taken (R180). -/
theorem branch_true (off : Byte) (s : State) :
    branch true off s = { s with
      pc := branchTarget (s.pc + 2) off
      cycles := 2 + if pageDiffers (s.pc + 2) (branchTarget (s.pc + 2) off) then 2 else 1 } := rfl

/-- A branch changes PC and the cycle counter only. -/
theorem branch_frame (cond : Bool) (off : Byte) (s : State) :
    ∃ pc cyc, branch cond off s = { s with pc := pc, cycles := cyc } ∧ 2 ≤ cyc ∧ cyc ≤ 4 := by
  cases cond with
  | false => exact ⟨_, _, rfl, by decide, by decide⟩
  | true =>
    rw [branch_true]
    exact ⟨_, _, rfl, by omega, by split <;> decide⟩

/-- An instruction completes, or is one of the three kinds that are unimplemented. -/
theorem exec_next_or_unimplemented (i : Instr) (s : State) :
    (∃ t, exec i s = .next t) ∨ i = .brk ∨ i = .rti ∨ ∃ op, i = .illegal op := by
  cases i with
  | brk => simp
  | rti => simp
  | illegal op => simp
  | _ => exact .inl ⟨_, rfl⟩

/-- What an instruction that completes does to memory: nothing, one byte, or JSR's two. -/
theorem exec_mem_cases {i : Instr} {s t : State} (h : exec i s = .next t) :
    t.mem = s.mem ∨ (∃ (a : Addr) (v : Byte), t.mem = s.mem.write a.toNat v) ∨
      ∃ (a b : Addr) (v w : Byte), t.mem = (s.mem.write a.toNat v).write b.toNat w := by
  cases i
  case brk | rti | illegal => exact (fault_ne_next h).elim
  case sta | stx | sty | inc | dec | pha | php => exact .inr (.inl ⟨_, _, by rw [next_eq h]; rfl⟩)
  case jsr => exact .inr (.inr ⟨_, _, _, _, by rw [next_eq h]; rfl⟩)
  case asl l | lsr l | rol l | ror l =>
    cases l with
    | acc => exact .inl (by rw [next_eq h]; rfl)
    | mem m => exact .inr (.inl ⟨_, _, by rw [next_eq h]; rfl⟩)
  case bcc | bcs | beq | bne | bmi | bpl | bvc | bvs =>
    refine .inl ?_
    rw [next_eq h]
    simp only [branch]
    split <;> rfl
  all_goals exact .inl (by rw [next_eq h]; rfl)

end Sys2Proof.Machine
end

