-- ==== Sys2Proof/Laws/PerInstr.lean ====
section
/-! SUPPORT. A statement about every instruction as syntax: its encoding is as long as its format says
(30_encoding.md rules R60, R61), one lemma per constructor. -/

namespace Sys2Proof.Laws

/-- A well-formed instruction is encoded in as many bytes as its format has, one to three. -/
def EncodeLength.Statement (i : Instr) : Prop :=
  i.WellFormed = true → (encode i).length = i.length ∧ 1 ≤ i.length ∧ i.length ≤ 3

/-- A memory mode has one or two operand bytes. -/
theorem memMode_operandLength_bounds (m : MemMode) : 1 ≤ m.operandLength ∧ m.operandLength ≤ 2 := by
  cases m <;> exact ⟨Nat.le_of_ble_eq_true rfl, Nat.le_of_ble_eq_true rfl⟩

/-- An instruction whose row of R65 has an opcode for the mode: the opcode, then the mode's bytes. -/
theorem encodeLength_mem {i : Instr} (r : MemOpcodes) (m : MemMode) (h1 : opcodeOf i = r.column m)
    (h2 : i.operandBytes = m.operandBytes) (h3 : i.length = 1 + m.operandLength)
    (h4 : i.WellFormed = true → (r.column m).isSome = true) : EncodeLength.Statement i := by
  intro hw
  obtain ⟨op, hop⟩ := Option.isSome_iff_exists.mp (h4 hw)
  have := memMode_operandLength_bounds m
  simp only [encode, h1, hop, h2, h3, List.length_cons, m.length_operandBytes]
  omega

theorem EncodeLength.lda (o : ReadOperand) : EncodeLength.Statement (.lda o) := by
  cases o with
  | imm _ => exact fun _ => ⟨rfl, Nat.le_of_ble_eq_true rfl, Nat.le_of_ble_eq_true rfl⟩
  | mem m => exact encodeLength_mem memOpcodesLda m rfl rfl rfl (by cases m <;> first | exact fun _ => rfl | exact nofun)

theorem EncodeLength.ldx (o : ReadOperand) : EncodeLength.Statement (.ldx o) := by
  cases o with
  | imm _ => exact fun _ => ⟨rfl, Nat.le_of_ble_eq_true rfl, Nat.le_of_ble_eq_true rfl⟩
  | mem m => exact encodeLength_mem memOpcodesLdx m rfl rfl rfl (by cases m <;> first | exact fun _ => rfl | exact nofun)

theorem EncodeLength.ldy (o : ReadOperand) : EncodeLength.Statement (.ldy o) := by
  cases o with
  | imm _ => exact fun _ => ⟨rfl, Nat.le_of_ble_eq_true rfl, Nat.le_of_ble_eq_true rfl⟩
  | mem m => exact encodeLength_mem memOpcodesLdy m rfl rfl rfl (by cases m <;> first | exact fun _ => rfl | exact nofun)

theorem EncodeLength.sta (m : MemMode) : EncodeLength.Statement (.sta m) :=
  encodeLength_mem memOpcodesSta m rfl rfl rfl (by cases m <;> first | exact fun _ => rfl | exact nofun)

theorem EncodeLength.stx (m : MemMode) : EncodeLength.Statement (.stx m) :=
  encodeLength_mem memOpcodesStx m rfl rfl rfl (by cases m <;> first | exact fun _ => rfl | exact nofun)

theorem EncodeLength.sty (m : MemMode) : EncodeLength.Statement (.sty m) :=
  encodeLength_mem memOpcodesSty m rfl rfl rfl (by cases m <;> first | exact fun _ => rfl | exact nofun)

theorem EncodeLength.tax : EncodeLength.Statement .tax :=
  fun _ => ⟨rfl, by decide, by decide⟩

theorem EncodeLength.tay : EncodeLength.Statement .tay :=
  fun _ => ⟨rfl, by decide, by decide⟩

theorem EncodeLength.txa : EncodeLength.Statement .txa :=
  fun _ => ⟨rfl, by decide, by decide⟩

theorem EncodeLength.tya : EncodeLength.Statement .tya :=
  fun _ => ⟨rfl, by decide, by decide⟩

theorem EncodeLength.tsx : EncodeLength.Statement .tsx :=
  fun _ => ⟨rfl, by decide, by decide⟩

theorem EncodeLength.txs : EncodeLength.Statement .txs :=
  fun _ => ⟨rfl, by decide, by decide⟩

theorem EncodeLength.adc (o : ReadOperand) : EncodeLength.Statement (.adc o) := by
  cases o with
  | imm _ => exact fun _ => ⟨rfl, Nat.le_of_ble_eq_true rfl, Nat.le_of_ble_eq_true rfl⟩
  | mem m => exact encodeLength_mem memOpcodesAdc m rfl rfl rfl (by cases m <;> first | exact fun _ => rfl | exact nofun)

theorem EncodeLength.sbc (o : ReadOperand) : EncodeLength.Statement (.sbc o) := by
  cases o with
  | imm _ => exact fun _ => ⟨rfl, Nat.le_of_ble_eq_true rfl, Nat.le_of_ble_eq_true rfl⟩
  | mem m => exact encodeLength_mem memOpcodesSbc m rfl rfl rfl (by cases m <;> first | exact fun _ => rfl | exact nofun)

theorem EncodeLength.and (o : ReadOperand) : EncodeLength.Statement (.and o) := by
  cases o with
  | imm _ => exact fun _ => ⟨rfl, Nat.le_of_ble_eq_true rfl, Nat.le_of_ble_eq_true rfl⟩
  | mem m => exact encodeLength_mem memOpcodesAnd m rfl rfl rfl (by cases m <;> first | exact fun _ => rfl | exact nofun)

theorem EncodeLength.ora (o : ReadOperand) : EncodeLength.Statement (.ora o) := by
  cases o with
  | imm _ => exact fun _ => ⟨rfl, Nat.le_of_ble_eq_true rfl, Nat.le_of_ble_eq_true rfl⟩
  | mem m => exact encodeLength_mem memOpcodesOra m rfl rfl rfl (by cases m <;> first | exact fun _ => rfl | exact nofun)

theorem EncodeLength.eor (o : ReadOperand) : EncodeLength.Statement (.eor o) := by
  cases o with
  | imm _ => exact fun _ => ⟨rfl, Nat.le_of_ble_eq_true rfl, Nat.le_of_ble_eq_true rfl⟩
  | mem m => exact encodeLength_mem memOpcodesEor m rfl rfl rfl (by cases m <;> first | exact fun _ => rfl | exact nofun)

theorem EncodeLength.bit (m : MemMode) : EncodeLength.Statement (.bit m) :=
  encodeLength_mem memOpcodesBit m rfl rfl rfl (by cases m <;> first | exact fun _ => rfl | exact nofun)

theorem EncodeLength.cmp (o : ReadOperand) : EncodeLength.Statement (.cmp o) := by
  cases o with
  | imm _ => exact fun _ => ⟨rfl, Nat.le_of_ble_eq_true rfl, Nat.le_of_ble_eq_true rfl⟩
  | mem m => exact encodeLength_mem memOpcodesCmp m rfl rfl rfl (by cases m <;> first | exact fun _ => rfl | exact nofun)

theorem EncodeLength.cpx (o : ReadOperand) : EncodeLength.Statement (.cpx o) := by
  cases o with
  | imm _ => exact fun _ => ⟨rfl, Nat.le_of_ble_eq_true rfl, Nat.le_of_ble_eq_true rfl⟩
  | mem m => exact encodeLength_mem memOpcodesCpx m rfl rfl rfl (by cases m <;> first | exact fun _ => rfl | exact nofun)

theorem EncodeLength.cpy (o : ReadOperand) : EncodeLength.Statement (.cpy o) := by
  cases o with
  | imm _ => exact fun _ => ⟨rfl, Nat.le_of_ble_eq_true rfl, Nat.le_of_ble_eq_true rfl⟩
  | mem m => exact encodeLength_mem memOpcodesCpy m rfl rfl rfl (by cases m <;> first | exact fun _ => rfl | exact nofun)

theorem EncodeLength.asl (l : Loc) : EncodeLength.Statement (.asl l) := by
  cases l with
  | acc => exact fun _ => ⟨rfl, Nat.le_of_ble_eq_true rfl, Nat.le_of_ble_eq_true rfl⟩
  | mem m => exact encodeLength_mem memOpcodesAsl m rfl rfl rfl (by cases m <;> first | exact fun _ => rfl | exact nofun)

theorem EncodeLength.lsr (l : Loc) : EncodeLength.Statement (.lsr l) := by
  cases l with
  | acc => exact fun _ => ⟨rfl, Nat.le_of_ble_eq_true rfl, Nat.le_of_ble_eq_true rfl⟩
  | mem m => exact encodeLength_mem memOpcodesLsr m rfl rfl rfl (by cases m <;> first | exact fun _ => rfl | exact nofun)

theorem EncodeLength.rol (l : Loc) : EncodeLength.Statement (.rol l) := by
  cases l with
  | acc => exact fun _ => ⟨rfl, Nat.le_of_ble_eq_true rfl, Nat.le_of_ble_eq_true rfl⟩
  | mem m => exact encodeLength_mem memOpcodesRol m rfl rfl rfl (by cases m <;> first | exact fun _ => rfl | exact nofun)

theorem EncodeLength.ror (l : Loc) : EncodeLength.Statement (.ror l) := by
  cases l with
  | acc => exact fun _ => ⟨rfl, Nat.le_of_ble_eq_true rfl, Nat.le_of_ble_eq_true rfl⟩
  | mem m => exact encodeLength_mem memOpcodesRor m rfl rfl rfl (by cases m <;> first | exact fun _ => rfl | exact nofun)

theorem EncodeLength.inc (m : MemMode) : EncodeLength.Statement (.inc m) :=
  encodeLength_mem memOpcodesInc m rfl rfl rfl (by cases m <;> first | exact fun _ => rfl | exact nofun)

theorem EncodeLength.dec (m : MemMode) : EncodeLength.Statement (.dec m) :=
  encodeLength_mem memOpcodesDec m rfl rfl rfl (by cases m <;> first | exact fun _ => rfl | exact nofun)

theorem EncodeLength.inx : EncodeLength.Statement .inx :=
  fun _ => ⟨rfl, by decide, by decide⟩

theorem EncodeLength.iny : EncodeLength.Statement .iny :=
  fun _ => ⟨rfl, by decide, by decide⟩

theorem EncodeLength.dex : EncodeLength.Statement .dex :=
  fun _ => ⟨rfl, by decide, by decide⟩

theorem EncodeLength.dey : EncodeLength.Statement .dey :=
  fun _ => ⟨rfl, by decide, by decide⟩

theorem EncodeLength.bcc (off : Byte) : EncodeLength.Statement (.bcc off) :=
  fun _ => ⟨rfl, Nat.le_of_ble_eq_true rfl, Nat.le_of_ble_eq_true rfl⟩

theorem EncodeLength.bcs (off : Byte) : EncodeLength.Statement (.bcs off) :=
  fun _ => ⟨rfl, Nat.le_of_ble_eq_true rfl, Nat.le_of_ble_eq_true rfl⟩

theorem EncodeLength.beq (off : Byte) : EncodeLength.Statement (.beq off) :=
  fun _ => ⟨rfl, Nat.le_of_ble_eq_true rfl, Nat.le_of_ble_eq_true rfl⟩

theorem EncodeLength.bne (off : Byte) : EncodeLength.Statement (.bne off) :=
  fun _ => ⟨rfl, Nat.le_of_ble_eq_true rfl, Nat.le_of_ble_eq_true rfl⟩

theorem EncodeLength.bmi (off : Byte) : EncodeLength.Statement (.bmi off) :=
  fun _ => ⟨rfl, Nat.le_of_ble_eq_true rfl, Nat.le_of_ble_eq_true rfl⟩

theorem EncodeLength.bpl (off : Byte) : EncodeLength.Statement (.bpl off) :=
  fun _ => ⟨rfl, Nat.le_of_ble_eq_true rfl, Nat.le_of_ble_eq_true rfl⟩

theorem EncodeLength.bvc (off : Byte) : EncodeLength.Statement (.bvc off) :=
  fun _ => ⟨rfl, Nat.le_of_ble_eq_true rfl, Nat.le_of_ble_eq_true rfl⟩

theorem EncodeLength.bvs (off : Byte) : EncodeLength.Statement (.bvs off) :=
  fun _ => ⟨rfl, Nat.le_of_ble_eq_true rfl, Nat.le_of_ble_eq_true rfl⟩

theorem EncodeLength.jmpAbs (target : Addr) : EncodeLength.Statement (.jmpAbs target) :=
  fun _ => ⟨rfl, Nat.le_of_ble_eq_true rfl, Nat.le_of_ble_eq_true rfl⟩

theorem EncodeLength.jmpInd (ptr : Addr) : EncodeLength.Statement (.jmpInd ptr) :=
  fun _ => ⟨rfl, Nat.le_of_ble_eq_true rfl, Nat.le_of_ble_eq_true rfl⟩

theorem EncodeLength.jsr (target : Addr) : EncodeLength.Statement (.jsr target) :=
  fun _ => ⟨rfl, Nat.le_of_ble_eq_true rfl, Nat.le_of_ble_eq_true rfl⟩

theorem EncodeLength.rts : EncodeLength.Statement .rts :=
  fun _ => ⟨rfl, by decide, by decide⟩

theorem EncodeLength.pha : EncodeLength.Statement .pha :=
  fun _ => ⟨rfl, by decide, by decide⟩

theorem EncodeLength.php : EncodeLength.Statement .php :=
  fun _ => ⟨rfl, by decide, by decide⟩

theorem EncodeLength.pla : EncodeLength.Statement .pla :=
  fun _ => ⟨rfl, by decide, by decide⟩

theorem EncodeLength.plp : EncodeLength.Statement .plp :=
  fun _ => ⟨rfl, by decide, by decide⟩

theorem EncodeLength.clc : EncodeLength.Statement .clc :=
  fun _ => ⟨rfl, by decide, by decide⟩

theorem EncodeLength.sec : EncodeLength.Statement .sec :=
  fun _ => ⟨rfl, by decide, by decide⟩

theorem EncodeLength.cli : EncodeLength.Statement .cli :=
  fun _ => ⟨rfl, by decide, by decide⟩

theorem EncodeLength.sei : EncodeLength.Statement .sei :=
  fun _ => ⟨rfl, by decide, by decide⟩

theorem EncodeLength.clv : EncodeLength.Statement .clv :=
  fun _ => ⟨rfl, by decide, by decide⟩

theorem EncodeLength.cld : EncodeLength.Statement .cld :=
  fun _ => ⟨rfl, by decide, by decide⟩

theorem EncodeLength.sed : EncodeLength.Statement .sed :=
  fun _ => ⟨rfl, by decide, by decide⟩

theorem EncodeLength.nop : EncodeLength.Statement .nop :=
  fun _ => ⟨rfl, by decide, by decide⟩

theorem EncodeLength.brk : EncodeLength.Statement .brk :=
  fun _ => ⟨rfl, by decide, by decide⟩

theorem EncodeLength.rti : EncodeLength.Statement .rti :=
  fun _ => ⟨rfl, by decide, by decide⟩

theorem EncodeLength.illegal (op : Byte) : EncodeLength.Statement (.illegal op) :=
  fun _ => ⟨rfl, Nat.le_of_ble_eq_true rfl, Nat.le_of_ble_eq_true rfl⟩

end Sys2Proof.Laws
end

