-- ==== Sys2Proof/Tests/Slice0.lean ====
section
/-! SUPPORT. The model's own tests: the well-formedness smoke test, decoding of words written out bit
by bit from the encodings of 30_encoding.md (R61, R65), and single steps whose results are those of
95_test_vectors.md. The witnesses of the statements are in Tests/Witnesses.lean. -/

namespace Sys2Proof.Tests

open Sys2Proof.Machine

/-! ## Well-formedness: one ill-formed term for each check -/

/-- No accumulator instruction has zero page,Y. -/
theorem test_illFormed_acc_zpY :
    (Instr.lda (.mem (.zpY 0x10))).WellFormed = false ∧ (Instr.sta (.zpY 0x10)).WellFormed = false := by
  decide

/-- LDX has no zero page,X. -/
theorem test_illFormed_ldx_zpX : (Instr.ldx (.mem (.zpX 0x10))).WellFormed = false := by decide

/-- LDY and the read-modify-write instructions have no absolute,Y. -/
theorem test_illFormed_absY :
    (Instr.ldy (.mem (.absY 0x1234))).WellFormed = false ∧
    (Instr.inc (.absY 0x1234)).WellFormed = false ∧
    (Instr.asl (.mem (.absY 0x1234))).WellFormed = false := by
  decide

/-- STX has no absolute,Y. -/
theorem test_illFormed_stx_absY : (Instr.stx (.absY 0x1234)).WellFormed = false := by decide

/-- STY has no absolute,X. -/
theorem test_illFormed_sty_absX : (Instr.sty (.absX 0x1234)).WellFormed = false := by decide

/-- BIT, CPX and CPY have no indexed form. -/
theorem test_illFormed_plain_zpX :
    (Instr.bit (.zpX 0x10)).WellFormed = false ∧ (Instr.cpx (.mem (.zpX 0x10))).WellFormed = false := by
  decide

/-- An implemented opcode, BRK or RTI is no undocumented byte. -/
theorem test_illFormed_illegal :
    (Instr.illegal 0xA9).WellFormed = false ∧ (Instr.illegal 0x00).WellFormed = false ∧
    (Instr.illegal 0x40).WellFormed = false := by
  decide

/-! ## Decoding -/

theorem test_decode_load_store :
    decode [0b10100001, 0b10000001] = .ok (.lda (.mem (.indX 0x81)), []) ∧
    decode [0b10100101, 0b10000001] = .ok (.lda (.mem (.zp 0x81)), []) ∧
    decode [0b10101001, 0b01000010] = .ok (.lda (.imm 0x42), []) ∧
    decode [0b10101101, 0b10010010, 0b00110100] = .ok (.lda (.mem (.abs 0x9234)), []) ∧
    decode [0b10110001, 0b10000001] = .ok (.lda (.mem (.indY 0x81)), []) ∧
    decode [0b10110101, 0b10000001] = .ok (.lda (.mem (.zpX 0x81)), []) ∧
    decode [0b10111001, 0b10010010, 0b00110100] = .ok (.lda (.mem (.absY 0x9234)), []) ∧
    decode [0b10111101, 0b10010010, 0b00110100] = .ok (.lda (.mem (.absX 0x9234)), []) ∧
    decode [0b10100010, 0b01000010] = .ok (.ldx (.imm 0x42), []) ∧
    decode [0b10100110, 0b10000001] = .ok (.ldx (.mem (.zp 0x81)), []) ∧
    decode [0b10101110, 0b10010010, 0b00110100] = .ok (.ldx (.mem (.abs 0x9234)), []) ∧
    decode [0b10110110, 0b10000001] = .ok (.ldx (.mem (.zpY 0x81)), []) ∧
    decode [0b10111110, 0b10010010, 0b00110100] = .ok (.ldx (.mem (.absY 0x9234)), []) ∧
    decode [0b10100000, 0b01000010] = .ok (.ldy (.imm 0x42), []) ∧
    decode [0b10100100, 0b10000001] = .ok (.ldy (.mem (.zp 0x81)), []) ∧
    decode [0b10101100, 0b10010010, 0b00110100] = .ok (.ldy (.mem (.abs 0x9234)), []) ∧
    decode [0b10110100, 0b10000001] = .ok (.ldy (.mem (.zpX 0x81)), []) ∧
    decode [0b10111100, 0b10010010, 0b00110100] = .ok (.ldy (.mem (.absX 0x9234)), []) ∧
    decode [0b10000001, 0b10000001] = .ok (.sta (.indX 0x81), []) ∧
    decode [0b10000101, 0b10000001] = .ok (.sta (.zp 0x81), []) ∧
    decode [0b10001101, 0b10010010, 0b00110100] = .ok (.sta (.abs 0x9234), []) ∧
    decode [0b10010001, 0b10000001] = .ok (.sta (.indY 0x81), []) ∧
    decode [0b10010101, 0b10000001] = .ok (.sta (.zpX 0x81), []) ∧
    decode [0b10011001, 0b10010010, 0b00110100] = .ok (.sta (.absY 0x9234), []) ∧
    decode [0b10011101, 0b10010010, 0b00110100] = .ok (.sta (.absX 0x9234), []) ∧
    decode [0b10000110, 0b10000001] = .ok (.stx (.zp 0x81), []) ∧
    decode [0b10001110, 0b10010010, 0b00110100] = .ok (.stx (.abs 0x9234), []) ∧
    decode [0b10010110, 0b10000001] = .ok (.stx (.zpY 0x81), []) ∧
    decode [0b10000100, 0b10000001] = .ok (.sty (.zp 0x81), []) ∧
    decode [0b10001100, 0b10010010, 0b00110100] = .ok (.sty (.abs 0x9234), []) ∧
    decode [0b10010100, 0b10000001] = .ok (.sty (.zpX 0x81), []) :=
    ⟨rfl, rfl, rfl, rfl, rfl, rfl, rfl, rfl, rfl, rfl, rfl, rfl, rfl, rfl, rfl, rfl, rfl, rfl,
    rfl, rfl, rfl, rfl, rfl, rfl, rfl, rfl, rfl, rfl, rfl, rfl, rfl⟩

theorem test_decode_transfer :
    decode [0b10101010] = .ok (.tax, []) ∧
    decode [0b10101000] = .ok (.tay, []) ∧
    decode [0b10001010] = .ok (.txa, []) ∧
    decode [0b10011000] = .ok (.tya, []) ∧
    decode [0b10111010] = .ok (.tsx, []) ∧
    decode [0b10011010] = .ok (.txs, []) :=
    ⟨rfl, rfl, rfl, rfl, rfl, rfl⟩

theorem test_decode_arith :
    decode [0b01100001, 0b10000001] = .ok (.adc (.mem (.indX 0x81)), []) ∧
    decode [0b01100101, 0b10000001] = .ok (.adc (.mem (.zp 0x81)), []) ∧
    decode [0b01101001, 0b01000010] = .ok (.adc (.imm 0x42), []) ∧
    decode [0b01101101, 0b10010010, 0b00110100] = .ok (.adc (.mem (.abs 0x9234)), []) ∧
    decode [0b01110001, 0b10000001] = .ok (.adc (.mem (.indY 0x81)), []) ∧
    decode [0b01110101, 0b10000001] = .ok (.adc (.mem (.zpX 0x81)), []) ∧
    decode [0b01111001, 0b10010010, 0b00110100] = .ok (.adc (.mem (.absY 0x9234)), []) ∧
    decode [0b01111101, 0b10010010, 0b00110100] = .ok (.adc (.mem (.absX 0x9234)), []) ∧
    decode [0b11100001, 0b10000001] = .ok (.sbc (.mem (.indX 0x81)), []) ∧
    decode [0b11100101, 0b10000001] = .ok (.sbc (.mem (.zp 0x81)), []) ∧
    decode [0b11101001, 0b01000010] = .ok (.sbc (.imm 0x42), []) ∧
    decode [0b11101101, 0b10010010, 0b00110100] = .ok (.sbc (.mem (.abs 0x9234)), []) ∧
    decode [0b11110001, 0b10000001] = .ok (.sbc (.mem (.indY 0x81)), []) ∧
    decode [0b11110101, 0b10000001] = .ok (.sbc (.mem (.zpX 0x81)), []) ∧
    decode [0b11111001, 0b10010010, 0b00110100] = .ok (.sbc (.mem (.absY 0x9234)), []) ∧
    decode [0b11111101, 0b10010010, 0b00110100] = .ok (.sbc (.mem (.absX 0x9234)), []) :=
    ⟨rfl, rfl, rfl, rfl, rfl, rfl, rfl, rfl, rfl, rfl, rfl, rfl, rfl, rfl, rfl, rfl⟩

theorem test_decode_logic :
    decode [0b00100001, 0b10000001] = .ok (.and (.mem (.indX 0x81)), []) ∧
    decode [0b00100101, 0b10000001] = .ok (.and (.mem (.zp 0x81)), []) ∧
    decode [0b00101001, 0b01000010] = .ok (.and (.imm 0x42), []) ∧
    decode [0b00101101, 0b10010010, 0b00110100] = .ok (.and (.mem (.abs 0x9234)), []) ∧
    decode [0b00110001, 0b10000001] = .ok (.and (.mem (.indY 0x81)), []) ∧
    decode [0b00110101, 0b10000001] = .ok (.and (.mem (.zpX 0x81)), []) ∧
    decode [0b00111001, 0b10010010, 0b00110100] = .ok (.and (.mem (.absY 0x9234)), []) ∧
    decode [0b00111101, 0b10010010, 0b00110100] = .ok (.and (.mem (.absX 0x9234)), []) ∧
    decode [0b00000001, 0b10000001] = .ok (.ora (.mem (.indX 0x81)), []) ∧
    decode [0b00000101, 0b10000001] = .ok (.ora (.mem (.zp 0x81)), []) ∧
    decode [0b00001001, 0b01000010] = .ok (.ora (.imm 0x42), []) ∧
    decode [0b00001101, 0b10010010, 0b00110100] = .ok (.ora (.mem (.abs 0x9234)), []) ∧
    decode [0b00010001, 0b10000001] = .ok (.ora (.mem (.indY 0x81)), []) ∧
    decode [0b00010101, 0b10000001] = .ok (.ora (.mem (.zpX 0x81)), []) ∧
    decode [0b00011001, 0b10010010, 0b00110100] = .ok (.ora (.mem (.absY 0x9234)), []) ∧
    decode [0b00011101, 0b10010010, 0b00110100] = .ok (.ora (.mem (.absX 0x9234)), []) ∧
    decode [0b01000001, 0b10000001] = .ok (.eor (.mem (.indX 0x81)), []) ∧
    decode [0b01000101, 0b10000001] = .ok (.eor (.mem (.zp 0x81)), []) ∧
    decode [0b01001001, 0b01000010] = .ok (.eor (.imm 0x42), []) ∧
    decode [0b01001101, 0b10010010, 0b00110100] = .ok (.eor (.mem (.abs 0x9234)), []) ∧
    decode [0b01010001, 0b10000001] = .ok (.eor (.mem (.indY 0x81)), []) ∧
    decode [0b01010101, 0b10000001] = .ok (.eor (.mem (.zpX 0x81)), []) ∧
    decode [0b01011001, 0b10010010, 0b00110100] = .ok (.eor (.mem (.absY 0x9234)), []) ∧
    decode [0b01011101, 0b10010010, 0b00110100] = .ok (.eor (.mem (.absX 0x9234)), []) ∧
    decode [0b00100100, 0b10000001] = .ok (.bit (.zp 0x81), []) ∧
    decode [0b00101100, 0b10010010, 0b00110100] = .ok (.bit (.abs 0x9234), []) :=
    ⟨rfl, rfl, rfl, rfl, rfl, rfl, rfl, rfl, rfl, rfl, rfl, rfl, rfl, rfl, rfl, rfl, rfl, rfl,
    rfl, rfl, rfl, rfl, rfl, rfl, rfl, rfl⟩

theorem test_decode_compare :
    decode [0b11000001, 0b10000001] = .ok (.cmp (.mem (.indX 0x81)), []) ∧
    decode [0b11000101, 0b10000001] = .ok (.cmp (.mem (.zp 0x81)), []) ∧
    decode [0b11001001, 0b01000010] = .ok (.cmp (.imm 0x42), []) ∧
    decode [0b11001101, 0b10010010, 0b00110100] = .ok (.cmp (.mem (.abs 0x9234)), []) ∧
    decode [0b11010001, 0b10000001] = .ok (.cmp (.mem (.indY 0x81)), []) ∧
    decode [0b11010101, 0b10000001] = .ok (.cmp (.mem (.zpX 0x81)), []) ∧
    decode [0b11011001, 0b10010010, 0b00110100] = .ok (.cmp (.mem (.absY 0x9234)), []) ∧
    decode [0b11011101, 0b10010010, 0b00110100] = .ok (.cmp (.mem (.absX 0x9234)), []) ∧
    decode [0b11100000, 0b01000010] = .ok (.cpx (.imm 0x42), []) ∧
    decode [0b11100100, 0b10000001] = .ok (.cpx (.mem (.zp 0x81)), []) ∧
    decode [0b11101100, 0b10010010, 0b00110100] = .ok (.cpx (.mem (.abs 0x9234)), []) ∧
    decode [0b11000000, 0b01000010] = .ok (.cpy (.imm 0x42), []) ∧
    decode [0b11000100, 0b10000001] = .ok (.cpy (.mem (.zp 0x81)), []) ∧
    decode [0b11001100, 0b10010010, 0b00110100] = .ok (.cpy (.mem (.abs 0x9234)), []) :=
    ⟨rfl, rfl, rfl, rfl, rfl, rfl, rfl, rfl, rfl, rfl, rfl, rfl, rfl, rfl⟩

theorem test_decode_shift :
    decode [0b00000110, 0b10000001] = .ok (.asl (.mem (.zp 0x81)), []) ∧
    decode [0b00001010] = .ok (.asl .acc, []) ∧
    decode [0b00001110, 0b10010010, 0b00110100] = .ok (.asl (.mem (.abs 0x9234)), []) ∧
    decode [0b00010110, 0b10000001] = .ok (.asl (.mem (.zpX 0x81)), []) ∧
    decode [0b00011110, 0b10010010, 0b00110100] = .ok (.asl (.mem (.absX 0x9234)), []) ∧
    decode [0b01000110, 0b10000001] = .ok (.lsr (.mem (.zp 0x81)), []) ∧
    decode [0b01001010] = .ok (.lsr .acc, []) ∧
    decode [0b01001110, 0b10010010, 0b00110100] = .ok (.lsr (.mem (.abs 0x9234)), []) ∧
    decode [0b01010110, 0b10000001] = .ok (.lsr (.mem (.zpX 0x81)), []) ∧
    decode [0b01011110, 0b10010010, 0b00110100] = .ok (.lsr (.mem (.absX 0x9234)), []) ∧
    decode [0b00100110, 0b10000001] = .ok (.rol (.mem (.zp 0x81)), []) ∧
    decode [0b00101010] = .ok (.rol .acc, []) ∧
    decode [0b00101110, 0b10010010, 0b00110100] = .ok (.rol (.mem (.abs 0x9234)), []) ∧
    decode [0b00110110, 0b10000001] = .ok (.rol (.mem (.zpX 0x81)), []) ∧
    decode [0b00111110, 0b10010010, 0b00110100] = .ok (.rol (.mem (.absX 0x9234)), []) ∧
    decode [0b01100110, 0b10000001] = .ok (.ror (.mem (.zp 0x81)), []) ∧
    decode [0b01101010] = .ok (.ror .acc, []) ∧
    decode [0b01101110, 0b10010010, 0b00110100] = .ok (.ror (.mem (.abs 0x9234)), []) ∧
    decode [0b01110110, 0b10000001] = .ok (.ror (.mem (.zpX 0x81)), []) ∧
    decode [0b01111110, 0b10010010, 0b00110100] = .ok (.ror (.mem (.absX 0x9234)), []) :=
    ⟨rfl, rfl, rfl, rfl, rfl, rfl, rfl, rfl, rfl, rfl, rfl, rfl, rfl, rfl, rfl, rfl, rfl, rfl,
    rfl, rfl⟩

theorem test_decode_count :
    decode [0b11100110, 0b10000001] = .ok (.inc (.zp 0x81), []) ∧
    decode [0b11101110, 0b10010010, 0b00110100] = .ok (.inc (.abs 0x9234), []) ∧
    decode [0b11110110, 0b10000001] = .ok (.inc (.zpX 0x81), []) ∧
    decode [0b11111110, 0b10010010, 0b00110100] = .ok (.inc (.absX 0x9234), []) ∧
    decode [0b11000110, 0b10000001] = .ok (.dec (.zp 0x81), []) ∧
    decode [0b11001110, 0b10010010, 0b00110100] = .ok (.dec (.abs 0x9234), []) ∧
    decode [0b11010110, 0b10000001] = .ok (.dec (.zpX 0x81), []) ∧
    decode [0b11011110, 0b10010010, 0b00110100] = .ok (.dec (.absX 0x9234), []) ∧
    decode [0b11101000] = .ok (.inx, []) ∧
    decode [0b11001000] = .ok (.iny, []) ∧
    decode [0b11001010] = .ok (.dex, []) ∧
    decode [0b10001000] = .ok (.dey, []) :=
    ⟨rfl, rfl, rfl, rfl, rfl, rfl, rfl, rfl, rfl, rfl, rfl, rfl⟩

theorem test_decode_branch :
    decode [0b10010000, 0b11111011] = .ok (.bcc 0xFB, []) ∧
    decode [0b10110000, 0b11111011] = .ok (.bcs 0xFB, []) ∧
    decode [0b11110000, 0b11111011] = .ok (.beq 0xFB, []) ∧
    decode [0b11010000, 0b11111011] = .ok (.bne 0xFB, []) ∧
    decode [0b00110000, 0b11111011] = .ok (.bmi 0xFB, []) ∧
    decode [0b00010000, 0b11111011] = .ok (.bpl 0xFB, []) ∧
    decode [0b01010000, 0b11111011] = .ok (.bvc 0xFB, []) ∧
    decode [0b01110000, 0b11111011] = .ok (.bvs 0xFB, []) :=
    ⟨rfl, rfl, rfl, rfl, rfl, rfl, rfl, rfl⟩

theorem test_decode_jump :
    decode [0b01001100, 0b10010010, 0b00110100] = .ok (.jmpAbs 0x9234, []) ∧
    decode [0b01101100, 0b10010010, 0b00110100] = .ok (.jmpInd 0x9234, []) ∧
    decode [0b00100000, 0b10010010, 0b00110100] = .ok (.jsr 0x9234, []) ∧
    decode [0b01100000] = .ok (.rts, []) :=
    ⟨rfl, rfl, rfl, rfl⟩

theorem test_decode_stack :
    decode [0b01001000] = .ok (.pha, []) ∧
    decode [0b00001000] = .ok (.php, []) ∧
    decode [0b01101000] = .ok (.pla, []) ∧
    decode [0b00101000] = .ok (.plp, []) :=
    ⟨rfl, rfl, rfl, rfl⟩

theorem test_decode_flag_misc :
    decode [0b00011000] = .ok (.clc, []) ∧
    decode [0b00111000] = .ok (.sec, []) ∧
    decode [0b01011000] = .ok (.cli, []) ∧
    decode [0b01111000] = .ok (.sei, []) ∧
    decode [0b10111000] = .ok (.clv, []) ∧
    decode [0b11011000] = .ok (.cld, []) ∧
    decode [0b11111000] = .ok (.sed, []) ∧
    decode [0b11101010] = .ok (.nop, []) ∧
    decode [0b00000000] = .ok (.brk, []) ∧
    decode [0b01000000] = .ok (.rti, []) :=
    ⟨rfl, rfl, rfl, rfl, rfl, rfl, rfl, rfl, rfl, rfl⟩

/-- Undocumented bytes of R66 take one byte. -/
theorem test_decode_illegal :
    decode [0b00000010] = .ok (.illegal 0x02, []) ∧
    decode [0b11111111, 0b10101010] = .ok (.illegal 0xFF, [0xAA]) :=
  ⟨rfl, rfl⟩

/-- What holds no instruction is rejected by name. -/
theorem test_decode_rejects :
    decode [] = .error .noBytes ∧ decode [0xAD, 0x12] = .error (.truncated 0xAD) :=
  ⟨rfl, rfl⟩

/-- The first byte of a table word is its low byte: `BD 12 F0` is 0xF012BD. -/
theorem test_decodeTableWord :
    decodeTableWord 24 0xF012BD = some (.lda (.mem (.absX 0x12F0))) ∧
    decodeTableWord 8 0xEA = some .nop := ⟨rfl, rfl⟩

/-! ## Steps -/

/-- Bytes stored at rising addresses. -/
def place : State → Addr → List Byte → State
  | s, _, [] => s
  | s, addr, b :: rest => place (s.write addr b) (addr + 1) rest

/-- Single bytes stored. -/
def pokes : State → List (Addr × Byte) → State
  | s, [] => s
  | s, (addr, v) :: rest => pokes (s.write addr v) rest

/-- The outcome of one step with the given bytes stored, and an instruction's bytes at PC. -/
def run (cells : List (Addr × Byte)) (instr : List Byte) (s : State) :
    Host.Outcome State Fault Refusal :=
  step (place (pokes s cells) s.pc instr)

/-- What is seen of a next state. -/
def seen {α : Type} (f : State → α) : Host.Outcome State Fault Refusal → Option α
  | .next t => some (f t)
  | .fault _ | .refused _ => none

/-- Flags from six digits in the order N V D I Z C. -/
def flagsOf (b : BitVec 6) : Flags :=
  { n := b.getLsbD 5
    v := b.getLsbD 4
    d := b.getLsbD 3
    i := b.getLsbD 2
    z := b.getLsbD 1
    c := b.getLsbD 0 }

/-- V40-7: LDA $12F0,X. -/
theorem test_lda_absX_page_cross :
    seen (fun t => (t.a, t.cycles))
      (run [(0x1300, 0x02)] [0xBD, 0x12, 0xF0] { State.reset with x := 0x10, pc := 0x0200 }) =
      some (0x02, 5) := rfl

/-- V40-11: LDA ($FF,X). -/
theorem test_lda_indX_pointer_wraps :
    seen (fun t => (t.a, t.flags))
      (run [(0x00FF, 0x34), (0x0000, 0x12), (0x1234, 0x88)] [0xA1, 0xFF] { State.reset with x := 0x00, pc := 0x0200 }) =
      some (0x88, flagsOf 0b100000) := rfl

/-- V40-4: LDX $F0,Y. -/
theorem test_ldx_zpY_wraps :
    seen (fun t => (t.x, t.pc))
      (run [(0x0001, 0x55)] [0xB6, 0xF0] { State.reset with y := 0x11, pc := 0x0200 }) =
      some (0x55, 0x0202) := rfl

/-- V41-5: LDX $12FF,Y. -/
theorem test_ldx_absY_page_cross :
    seen (fun t => (t.x, t.cycles))
      (run [(0x1300, 0x80)] [0xBE, 0x12, 0xFF] { State.reset with y := 0x01, pc := 0x0200 }) =
      some (0x80, 5) := rfl

/-- V41-6: LDY #$7F. -/
theorem test_ldy_imm_clears_nz :
    seen (fun t => (t.y, t.flags))
      (run [] [0xA0, 0x7F] { State.reset with pc := 0x0200, flags := flagsOf 0b100010 }) =
      some (0x7F, flagsOf 0b000000) := rfl

/-- V41-7: LDY $12FF,X. -/
theorem test_ldy_absX_page_cross :
    seen (fun t => (t.y, t.cycles))
      (run [(0x1301, 0x01)] [0xBC, 0x12, 0xFF] { State.reset with x := 0x02, pc := 0x0200 }) =
      some (0x01, 5) := rfl

/-- V40-9: STA $12F0,X. -/
theorem test_sta_absX_no_penalty :
    seen (fun t => (t.read 0x1300, t.cycles))
      (run [] [0x9D, 0x12, 0xF0] { State.reset with a := 0x77, x := 0x10, pc := 0x0200 }) =
      some (0x77, 5) := rfl

/-- V40-16: STA ($40),Y. -/
theorem test_sta_indY :
    seen (fun t => (t.read 0x2108, t.cycles))
      (run [(0x0040, 0xF8), (0x0041, 0x20)] [0x91, 0x40] { State.reset with a := 0x11, y := 0x10, pc := 0x0200 }) =
      some (0x11, 6) := rfl

/-- V41-10: STX $FF,Y. -/
theorem test_stx_zpY_wraps :
    seen (fun t => (t.read 0x0001, t.flags))
      (run [] [0x96, 0xFF] { State.reset with x := 0x9A, y := 0x02, pc := 0x0200 }) =
      some (0x9A, flagsOf 0b000000) := rfl

/-- V41-11: STY $1234. -/
theorem test_sty_abs :
    seen (fun t => (t.read 0x1234, t.flags))
      (run [] [0x8C, 0x12, 0x34] { State.reset with y := 0x80, pc := 0x0200 }) =
      some (0x80, flagsOf 0b000000) := rfl

/-- V41-12: TAX. -/
theorem test_tax :
    seen (fun t => (t.x, t.flags))
      (run [] [0xAA] { State.reset with a := 0x80, pc := 0x0200 }) =
      some (0x80, flagsOf 0b100000) := rfl

/-- V41-13: TAY. -/
theorem test_tay :
    seen (fun t => (t.y, t.flags))
      (run [] [0xA8] { State.reset with a := 0x00, y := 0x12, pc := 0x0200 }) =
      some (0x00, flagsOf 0b000010) := rfl

/-- V41-14: TXA. -/
theorem test_txa :
    seen (fun t => (t.a, t.flags))
      (run [] [0x8A] { State.reset with a := 0xFF, x := 0x01, pc := 0x0200, flags := flagsOf 0b100000 }) =
      some (0x01, flagsOf 0b000000) := rfl

/-- V41-15: TYA. -/
theorem test_tya :
    seen (fun t => (t.a, t.flags))
      (run [] [0x98] { State.reset with y := 0xF0, pc := 0x0200 }) =
      some (0xF0, flagsOf 0b100000) := rfl

/-- V41-17: TSX. -/
theorem test_tsx_low_byte :
    seen (fun t => (t.x, t.flags))
      (run [] [0xBA] { State.reset with sp := 0x01FD, pc := 0x0200 }) =
      some (0xFD, flagsOf 0b100000) := rfl

/-- V41-19: TXS. -/
theorem test_txs_no_flag :
    seen (fun t => (t.sp, t.flags))
      (run [] [0x9A] { State.reset with x := 0xFF, pc := 0x0200, flags := flagsOf 0b000010 }) =
      some (0x01FF, flagsOf 0b000010) := rfl

/-- V42-5: ADC #$00. -/
theorem test_adc_carry_makes_overflow :
    seen (fun t => (t.a, t.flags))
      (run [] [0x69, 0x00] { State.reset with a := 0x7F, pc := 0x0200, flags := flagsOf 0b000001 }) =
      some (0x80, flagsOf 0b110000) := rfl

/-- V42-7: ADC #$01. -/
theorem test_adc_ignores_decimal :
    seen (fun t => (t.a, t.flags))
      (run [] [0x69, 0x01] { State.reset with a := 0x08, pc := 0x0200, flags := flagsOf 0b001000 }) =
      some (0x09, flagsOf 0b001000) := rfl

/-- V42-9: SBC #$01. -/
theorem test_sbc_borrow_in :
    seen (fun t => (t.a, t.flags))
      (run [] [0xE9, 0x01] { State.reset with a := 0x05, pc := 0x0200 }) =
      some (0x03, flagsOf 0b000001) := rfl

/-- V42-11: SBC #$FF. -/
theorem test_sbc_overflow :
    seen (fun t => (t.a, t.flags))
      (run [] [0xE9, 0xFF] { State.reset with a := 0x7F, pc := 0x0200, flags := flagsOf 0b000001 }) =
      some (0x80, flagsOf 0b110000) := rfl

/-- V42-14: AND $10. -/
theorem test_and_zp_keeps_carry :
    seen (fun t => (t.a, t.flags))
      (run [(0x0010, 0x80)] [0x25, 0x10] { State.reset with a := 0xFF, pc := 0x0200, flags := flagsOf 0b000001 }) =
      some (0x80, flagsOf 0b100001) := rfl

/-- V42-15: ORA #$80. -/
theorem test_ora_imm :
    seen (fun t => (t.a, t.flags))
      (run [] [0x09, 0x80] { State.reset with a := 0x01, pc := 0x0200 }) =
      some (0x81, flagsOf 0b100000) := rfl

/-- V42-17: EOR #$FF. -/
theorem test_eor_imm :
    seen (fun t => (t.a, t.flags))
      (run [] [0x49, 0xFF] { State.reset with a := 0xFF, pc := 0x0200 }) =
      some (0x00, flagsOf 0b000010) := rfl

/-- V42-19: BIT $10. -/
theorem test_bit_zp :
    seen (fun t => (t.a, t.flags))
      (run [(0x0010, 0xC0)] [0x24, 0x10] { State.reset with a := 0x01, pc := 0x0200 }) =
      some (0x01, flagsOf 0b110010) := rfl

/-- V42-20: BIT $1234. -/
theorem test_bit_abs :
    seen (fun t => (t.flags, t.cycles))
      (run [(0x1234, 0x01)] [0x2C, 0x12, 0x34] { State.reset with a := 0xFF, pc := 0x0200, flags := flagsOf 0b110010 }) =
      some (flagsOf 0b000000, 4) := rfl

/-- V42-22: CMP #$43. -/
theorem test_cmp_below :
    seen (fun t => (t.a, t.flags))
      (run [] [0xC9, 0x43] { State.reset with a := 0x42, pc := 0x0200 }) =
      some (0x42, flagsOf 0b100000) := rfl

/-- V42-24: CMP #$80. -/
theorem test_cmp_keeps_overflow :
    seen (fun t => (t.flags, t.pc))
      (run [] [0xC9, 0x80] { State.reset with a := 0x00, pc := 0x0200, flags := flagsOf 0b010000 }) =
      some (flagsOf 0b110000, 0x0202) := rfl

/-- V42-25: CPX $10. -/
theorem test_cpx_zp :
    seen (fun t => (t.x, t.flags))
      (run [(0x0010, 0x20)] [0xE4, 0x10] { State.reset with x := 0x10, pc := 0x0200 }) =
      some (0x10, flagsOf 0b100000) := rfl

/-- V42-28: CPY $1234. -/
theorem test_cpy_abs :
    seen (fun t => (t.y, t.flags))
      (run [(0x1234, 0x02)] [0xCC, 0x12, 0x34] { State.reset with y := 0x01, pc := 0x0200 }) =
      some (0x01, flagsOf 0b100000) := rfl

/-- S5: ASL A. -/
theorem test_asl_acc :
    seen (fun t => (t.a, t.flags))
      (run [] [0x0A] { State.reset with a := 0x7C, pc := 0x0200 }) =
      some (0xF8, flagsOf 0b100000) := rfl

/-- V43-3: ASL $10. -/
theorem test_asl_zp :
    seen (fun t => (t.read 0x0010, t.flags))
      (run [(0x0010, 0xFF)] [0x06, 0x10] { State.reset with pc := 0x0200 }) =
      some (0xFE, flagsOf 0b100001) := rfl

/-- V43-4: LSR A. -/
theorem test_lsr_acc :
    seen (fun t => (t.a, t.flags))
      (run [] [0x4A] { State.reset with a := 0x01, pc := 0x0200, flags := flagsOf 0b100000 }) =
      some (0x00, flagsOf 0b000011) := rfl

/-- V43-5: LSR $1234. -/
theorem test_lsr_abs :
    seen (fun t => (t.read 0x1234, t.flags))
      (run [(0x1234, 0x80)] [0x4E, 0x12, 0x34] { State.reset with pc := 0x0200, flags := flagsOf 0b000001 }) =
      some (0x40, flagsOf 0b000000) := rfl

/-- V43-6: ROL A. -/
theorem test_rol_acc :
    seen (fun t => (t.a, t.flags))
      (run [] [0x2A] { State.reset with a := 0x80, pc := 0x0200, flags := flagsOf 0b000001 }) =
      some (0x01, flagsOf 0b000001) := rfl

/-- V43-8: ROR A. -/
theorem test_ror_acc :
    seen (fun t => (t.a, t.flags))
      (run [] [0x6A] { State.reset with a := 0x01, pc := 0x0200, flags := flagsOf 0b000001 }) =
      some (0x80, flagsOf 0b100001) := rfl

/-- V43-10: ROR $10,X. -/
theorem test_ror_zpX :
    seen (fun t => (t.read 0x0011, t.cycles))
      (run [(0x0011, 0x02)] [0x76, 0x10] { State.reset with x := 0x01, pc := 0x0200 }) =
      some (0x01, 6) := rfl

/-- V43-11: INC $10. -/
theorem test_inc_zp_wraps :
    seen (fun t => (t.read 0x0010, t.flags))
      (run [(0x0010, 0xFF)] [0xE6, 0x10] { State.reset with pc := 0x0200, flags := flagsOf 0b000001 }) =
      some (0x00, flagsOf 0b000011) := rfl

/-- V43-12: INC $1234,X. -/
theorem test_inc_absX :
    seen (fun t => (t.read 0x1235, t.cycles))
      (run [(0x1235, 0x7F)] [0xFE, 0x12, 0x34] { State.reset with x := 0x01, pc := 0x0200 }) =
      some (0x80, 7) := rfl

/-- V43-13: DEC $10. -/
theorem test_dec_zp_wraps :
    seen (fun t => (t.read 0x0010, t.flags))
      (run [(0x0010, 0x00)] [0xC6, 0x10] { State.reset with pc := 0x0200 }) =
      some (0xFF, flagsOf 0b100000) := rfl

/-- V43-14: DEC $12FF,X. -/
theorem test_dec_absX :
    seen (fun t => (t.read 0x1300, t.flags))
      (run [(0x1300, 0x01)] [0xDE, 0x12, 0xFF] { State.reset with x := 0x01, pc := 0x0200 }) =
      some (0x00, flagsOf 0b000010) := rfl

/-- V43-15: INX. -/
theorem test_inx_wraps :
    seen (fun t => (t.x, t.flags))
      (run [] [0xE8] { State.reset with x := 0xFF, pc := 0x0200 }) =
      some (0x00, flagsOf 0b000010) := rfl

/-- V43-16: INY. -/
theorem test_iny :
    seen (fun t => (t.y, t.flags))
      (run [] [0xC8] { State.reset with y := 0x7F, pc := 0x0200 }) =
      some (0x80, flagsOf 0b100000) := rfl

/-- V43-17: DEX. -/
theorem test_dex_wraps :
    seen (fun t => (t.x, t.flags))
      (run [] [0xCA] { State.reset with x := 0x00, pc := 0x0200 }) =
      some (0xFF, flagsOf 0b100000) := rfl

/-- V43-18: DEY. -/
theorem test_dey :
    seen (fun t => (t.y, t.flags))
      (run [] [0x88] { State.reset with y := 0x01, pc := 0x0200 }) =
      some (0x00, flagsOf 0b000010) := rfl

/-- S4a: BCC (offset 0xFB). -/
theorem test_bcc_back_same_page :
    seen (fun t => (t.pc, t.cycles))
      (run [] [0x90, 0xFB] { State.reset with pc := 0x0210 }) =
      some (0x020D, 3) := rfl

/-- S4b: BCC (offset 0xFB). -/
theorem test_bcc_back_page_cross :
    seen (fun t => (t.pc, t.cycles))
      (run [] [0x90, 0xFB] { State.reset with pc := 0x0201 }) =
      some (0x01FE, 4) := rfl

/-- V44-4: BCS (offset 0x7F). -/
theorem test_bcs_furthest_forward :
    seen (fun t => (t.pc, t.cycles))
      (run [] [0xB0, 0x7F] { State.reset with pc := 0x0200, flags := flagsOf 0b000001 }) =
      some (0x0281, 3) := rfl

/-- V44-5: BCS (offset 0x80). -/
theorem test_bcs_furthest_back :
    seen (fun t => (t.pc, t.cycles))
      (run [] [0xB0, 0x80] { State.reset with pc := 0x0200, flags := flagsOf 0b000001 }) =
      some (0x0182, 4) := rfl

/-- V44-6: BEQ (offset 0x00). -/
theorem test_beq_taken :
    seen (fun t => (t.pc, t.cycles))
      (run [] [0xF0, 0x00] { State.reset with pc := 0x0200, flags := flagsOf 0b000010 }) =
      some (0x0202, 3) := rfl

/-- V44-7: BEQ (offset 0x10). -/
theorem test_beq_not_taken :
    seen (fun t => (t.pc, t.cycles))
      (run [] [0xF0, 0x10] { State.reset with pc := 0x0200 }) =
      some (0x0202, 2) := rfl

/-- V44-8: BNE (offset 0xFE). -/
theorem test_bne_to_itself :
    seen (fun t => (t.pc, t.cycles))
      (run [] [0xD0, 0xFE] { State.reset with pc := 0x0200 }) =
      some (0x0200, 3) := rfl

/-- V44-18: BNE (offset 0x02). -/
theorem test_bne_wraps :
    seen (fun t => (t.pc, t.cycles))
      (run [] [0xD0, 0x02] { State.reset with pc := 0xFFFC }) =
      some (0x0000, 4) := rfl

/-- V44-10: BMI (offset 0x04). -/
theorem test_bmi_page_cross :
    seen (fun t => (t.pc, t.cycles))
      (run [] [0x30, 0x04] { State.reset with pc := 0x02FC, flags := flagsOf 0b100000 }) =
      some (0x0302, 4) := rfl

/-- V44-11: BMI (offset 0x04). -/
theorem test_bmi_not_taken :
    seen (fun t => (t.pc, t.cycles))
      (run [] [0x30, 0x04] { State.reset with pc := 0x0200 }) =
      some (0x0202, 2) := rfl

/-- V44-12: BPL (offset 0x04). -/
theorem test_bpl_taken :
    seen (fun t => (t.pc, t.cycles))
      (run [] [0x10, 0x04] { State.reset with pc := 0x0200 }) =
      some (0x0206, 3) := rfl

/-- V44-13: BPL (offset 0x04). -/
theorem test_bpl_not_taken :
    seen (fun t => (t.pc, t.cycles))
      (run [] [0x10, 0x04] { State.reset with pc := 0x0200, flags := flagsOf 0b100000 }) =
      some (0x0202, 2) := rfl

/-- V44-14: BVC (offset 0x02). -/
theorem test_bvc_taken :
    seen (fun t => (t.pc, t.cycles))
      (run [] [0x50, 0x02] { State.reset with pc := 0x0200 }) =
      some (0x0204, 3) := rfl

/-- V44-15: BVC (offset 0x02). -/
theorem test_bvc_not_taken :
    seen (fun t => (t.pc, t.cycles))
      (run [] [0x50, 0x02] { State.reset with pc := 0x0200, flags := flagsOf 0b010000 }) =
      some (0x0202, 2) := rfl

/-- V44-16: BVS (offset 0x02). -/
theorem test_bvs_taken :
    seen (fun t => (t.pc, t.cycles))
      (run [] [0x70, 0x02] { State.reset with pc := 0x0200, flags := flagsOf 0b010000 }) =
      some (0x0204, 3) := rfl

/-- V44-17: BVS (offset 0x02). -/
theorem test_bvs_not_taken :
    seen (fun t => (t.pc, t.cycles))
      (run [] [0x70, 0x02] { State.reset with pc := 0x0200 }) =
      some (0x0202, 2) := rfl

/-- V44-19: JMP $1234. -/
theorem test_jmp_abs :
    seen (fun t => (t.pc, t.cycles))
      (run [] [0x4C, 0x12, 0x34] { State.reset with pc := 0x0200 }) =
      some (0x1234, 3) := rfl

/-- V44-20: JMP ($3000). -/
theorem test_jmp_ind :
    seen (fun t => (t.pc, t.cycles))
      (run [(0x3000, 0x78), (0x3001, 0x56)] [0x6C, 0x30, 0x00] { State.reset with pc := 0x0200 }) =
      some (0x5678, 5) := rfl

/-- V44-21: JMP ($30FF). -/
theorem test_jmp_ind_page_wrap :
    seen (fun t => (t.pc, t.cycles))
      (run [(0x30FF, 0x78), (0x3000, 0x56), (0x3100, 0x99)] [0x6C, 0x30, 0xFF] { State.reset with pc := 0x0200 }) =
      some (0x5678, 5) := rfl

/-- V44-23: JSR $4000. -/
theorem test_jsr_from_reset_stack :
    seen (fun t => (t.read 0x0100, t.read 0x01FF, t.sp))
      (run [] [0x20, 0x40, 0x00] { State.reset with pc := 0x0200 }) =
      some (0x02, 0x02, 0x00FE) := rfl

/-- V44-22: JSR $4000. -/
theorem test_jsr_pushes_last_byte :
    seen (fun t => (t.read 0x01FF, t.read 0x01FE, t.pc))
      (run [] [0x20, 0x40, 0x00] { State.reset with sp := 0x01FF, pc := 0x0200 }) =
      some (0x02, 0x02, 0x4000) := rfl

/-- V44-24: RTS. -/
theorem test_rts :
    seen (fun t => (t.pc, t.sp))
      (run [(0x01FE, 0x02), (0x01FF, 0x02)] [0x60] { State.reset with sp := 0x01FD, pc := 0x0200 }) =
      some (0x0203, 0x01FF) := rfl

/-- V44-25: RTS. -/
theorem test_rts_wraps :
    seen (fun t => (t.pc, t.sp))
      (run [(0x01FE, 0xFF), (0x01FF, 0xFF)] [0x60] { State.reset with sp := 0x01FD, pc := 0x0200 }) =
      some (0x0000, 0x01FF) := rfl

/-- V45-2: PHA. -/
theorem test_pha_from_reset_stack :
    seen (fun t => (t.read 0x0100, t.sp))
      (run [] [0x48] { State.reset with a := 0x5A, pc := 0x0200 }) =
      some (0x5A, 0x00FF) := rfl

/-- V45-3: PHA. -/
theorem test_pha_page_one :
    seen (fun t => (t.read 0x01FF, t.sp))
      (run [] [0x48] { State.reset with a := 0x5A, sp := 0x00FF, pc := 0x0200 }) =
      some (0x5A, 0x00FE) := rfl

/-- V45-4: PHP. -/
theorem test_php_no_flag_set :
    seen (fun t => (t.read 0x01FF, t.flags))
      (run [] [0x08] { State.reset with sp := 0x01FF, pc := 0x0200 }) =
      some (0x30, flagsOf 0b000000) := rfl

/-- V45-6: PHP. -/
theorem test_php_some_flags :
    seen (fun t => (t.read 0x01FF, t.sp))
      (run [] [0x08] { State.reset with sp := 0x01FF, pc := 0x0200, flags := flagsOf 0b101001 }) =
      some (0xB9, 0x01FE) := rfl

/-- V45-7: PLA. -/
theorem test_pla_zero :
    seen (fun t => (t.a, t.flags))
      (run [(0x01FF, 0x00)] [0x68] { State.reset with sp := 0x01FE, pc := 0x0200, flags := flagsOf 0b100000 }) =
      some (0x00, flagsOf 0b000010) := rfl

/-- V45-8: PLA. -/
theorem test_pla_past_page_one :
    seen (fun t => (t.a, t.sp))
      (run [(0x0100, 0x80)] [0x68] { State.reset with sp := 0x01FF, pc := 0x0200 }) =
      some (0x80, 0x0200) := rfl

/-- V45-9: PLP. -/
theorem test_plp_all_set :
    seen (fun t => (t.flags, t.sp))
      (run [(0x01FF, 0xFF)] [0x28] { State.reset with sp := 0x01FE, pc := 0x0200 }) =
      some (flagsOf 0b111111, 0x01FF) := rfl

/-- V45-11: PLP. -/
theorem test_plp_some_set :
    seen (fun t => (t.flags, t.pc))
      (run [(0x01FF, 0xC3)] [0x28] { State.reset with sp := 0x01FE, pc := 0x0200 }) =
      some (flagsOf 0b110011, 0x0201) := rfl

/-- V45-12: CLC. -/
theorem test_clc :
    seen (fun t => (t.flags, t.pc))
      (run [] [0x18] { State.reset with pc := 0x0200, flags := flagsOf 0b000001 }) =
      some (flagsOf 0b000000, 0x0201) := rfl

/-- V45-13: SEC. -/
theorem test_sec :
    seen (fun t => (t.flags, t.pc))
      (run [] [0x38] { State.reset with pc := 0x0200 }) =
      some (flagsOf 0b000001, 0x0201) := rfl

/-- V45-14: CLI. -/
theorem test_cli :
    seen (fun t => (t.flags, t.pc))
      (run [] [0x58] { State.reset with pc := 0x0200, flags := flagsOf 0b000100 }) =
      some (flagsOf 0b000000, 0x0201) := rfl

/-- V45-15: SEI. -/
theorem test_sei :
    seen (fun t => (t.flags, t.pc))
      (run [] [0x78] { State.reset with pc := 0x0200 }) =
      some (flagsOf 0b000100, 0x0201) := rfl

/-- V45-16: CLV. -/
theorem test_clv :
    seen (fun t => (t.flags, t.pc))
      (run [] [0xB8] { State.reset with pc := 0x0200, flags := flagsOf 0b010000 }) =
      some (flagsOf 0b000000, 0x0201) := rfl

/-- V45-17: CLD. -/
theorem test_cld :
    seen (fun t => (t.flags, t.pc))
      (run [] [0xD8] { State.reset with pc := 0x0200, flags := flagsOf 0b001000 }) =
      some (flagsOf 0b000000, 0x0201) := rfl

/-- V45-18: SED. -/
theorem test_sed :
    seen (fun t => (t.flags, t.pc))
      (run [] [0xF8] { State.reset with pc := 0x0200 }) =
      some (flagsOf 0b001000, 0x0201) := rfl

/-- V45-20: NOP. -/
theorem test_nop :
    seen (fun t => (t.flags, t.pc))
      (run [] [0xEA] { State.reset with pc := 0x0200, flags := flagsOf 0b100010 }) =
      some (flagsOf 0b100010, 0x0201) := rfl

/-- V60-1: BRK. -/
theorem test_brk :
    run [] [0x00] { State.reset with a := 0x12, pc := 0x0200 } =
      .fault (.illegalOpcode 0x00 0x0200) := rfl

/-- V60-2: RTI. -/
theorem test_rti :
    run [] [0x40] { State.reset with sp := 0x01FC, pc := 0x0200 } =
      .fault (.illegalOpcode 0x40 0x0200) := rfl

/-- V60-5: an undocumented no-op of the NMOS part. -/
theorem test_illegal :
    run [] [0x1A] { State.reset with pc := 0x0200 } = .fault (.illegalOpcode 0x1A 0x0200) := rfl

/-- V40-18: the operand byte of an opcode at 0xFFFF is at 0x0000. -/
theorem test_fetch_wraps :
    seen (fun t => (t.a, t.pc)) (run [] [0xA5, 0xFF] { State.reset with pc := 0xFFFF }) =
      some (0x00, 0x0001) := rfl

/-- V70-1: Execute after Reset, with no host action. -/
theorem test_execute_after_reset :
    execute 0 State.reset = (State.reset, .illegalOpcode 0x00 0xFFFC) := rfl

end Sys2Proof.Tests
end

