-- ==== Sys2Proof/Tests/Witnesses.lean ====
section
/-! SUPPORT. For every statement with hypotheses a concrete input that meets them all; where a
statement has several clauses, one for each. A statement without hypotheses is not named here. -/

namespace Sys2Proof.Tests

open Sys2Proof.Machine Sys2Proof.Claims

/-- The reset state with PC at 0x0200 and the given bytes there. -/
def at0200 (bytes : List Byte) : State := place { State.reset with pc := 0x0200 } 0x0200 bytes

/-- The reset state with PC at the last address and the given bytes from there on. -/
def atFFFF (bytes : List Byte) : State := place { State.reset with pc := 0xFFFF } 0xFFFF bytes

/-! ## Encoding and the step -/

theorem witness_DecodeOfEncodeGivesBack :
    (Instr.lda (.mem (.absX 0xFFFF))).WellFormed = true ∧ (Instr.illegal 0xFF).WellFormed = true ∧
    Instr.brk.WellFormed = true ∧ (Instr.ror .acc).WellFormed = true := by
  decide

/-- Both clauses, the instruction lying across the end of the address space. -/
theorem witness_StepRunsTheDecodedInstruction :
    decode [(atFFFF [0xAD, 0x12, 0x34]).read 0xFFFF, (atFFFF [0xAD, 0x12, 0x34]).read 0x0000,
      (atFFFF [0xAD, 0x12, 0x34]).read 0x0001] = .ok (.lda (.mem (.abs 0x1234)), []) ∧
    (Instr.lda (.mem (.abs 0x1234))).WellFormed = true ∧
    (∀ k, k < (encode (.lda (.mem (.abs 0x1234)))).length →
      (atFFFF [0xAD, 0x12, 0x34]).read ((atFFFF [0xAD, 0x12, 0x34]).pc + BitVec.ofNat 16 k) =
        (encode (.lda (.mem (.abs 0x1234)))).getD k 0) :=
  ⟨rfl, rfl, by decide +kernel⟩

/-- Both clauses: 0x00, the first of the listed bytes, and 0xEA, which is none of them. -/
theorem witness_StepFaultsExactlyOnUnimplemented :
    State.reset.read State.reset.pc ∈ unimplementedBytes ∧
    (at0200 [0xEA]).read (at0200 [0xEA]).pc ∉ unimplementedBytes := by
  decide +kernel

/-- The last of the listed bytes. -/
theorem witness_IllegalOpcodeOutcomeRepeats :
    (at0200 [0xFF]).read (at0200 [0xFF]).pc ∈ unimplementedBytes := by
  decide +kernel

/-- The fewest cycles and the most. -/
theorem witness_StepTakesTwoToSevenCycles :
    (∃ t, step (at0200 [0xEA]) = .next t ∧ t.cycles = 2) ∧
    (∃ t, step (at0200 [0xFE, 0x12, 0xFF]) = .next t ∧ t.cycles = 7) :=
  ⟨⟨_, rfl, rfl⟩, ⟨_, rfl, rfl⟩⟩

/-- A step that uses SP and completes, and one that faults. -/
theorem witness_StackPointerHighByteIsInvisible :
    (∃ t, step (at0200 [0x48]) = .next t ∧ t.sp = 0x00FF) ∧
    step (at0200 [0x00]) = .fault (.illegalOpcode 0x00 0x0200) :=
  ⟨⟨_, rfl, rfl⟩, rfl⟩

theorem witness_DecimalAndInterruptFlagsGateNothing :
    Instr.adc (.imm 0x09) ≠ .php ∧ Instr.plp ≠ .php ∧ Instr.sei ≠ .php := by
  decide

/-! ## Who writes what: NOP is in no list, and each list has an instruction that is in it -/

theorem witness_RegistersKeepUnlessListed :
    (∃ t, exec .nop State.reset = .next t) ∧
    writesA .nop = false ∧ writesX .nop = false ∧ writesY .nop = false ∧ writesSP .nop = false ∧
    writesA .pla = true ∧ writesX .tsx = true ∧ writesY .tay = true ∧ writesSP .rts = true :=
  ⟨⟨_, rfl⟩, rfl, rfl, rfl, rfl, rfl, rfl, rfl, rfl⟩

theorem witness_FlagsKeepUnlessListed :
    (∃ t, exec .nop State.reset = .next t) ∧ writesNZ .nop = false ∧ writesV .nop = false ∧
    writesD .nop = false ∧ writesI .nop = false ∧ writesC .nop = false ∧
    writesV (.cmp (.imm 0x01)) = false ∧ writesC (.inc (.zp 0x10)) = false :=
  ⟨⟨_, rfl⟩, rfl, rfl, rfl, rfl, rfl, rfl, rfl⟩

/-- A form that stores nothing of an instruction that has forms that store. -/
theorem witness_MemoryKeepsUnlessStoredTo :
    (∃ t, exec (.asl .acc) State.reset = .next t) ∧ writesMemory (.asl .acc) = false ∧
    writesMemory (.asl (.mem (.zp 0x10))) = true :=
  ⟨⟨_, rfl⟩, rfl, rfl⟩

/-- At the last address PC wraps. -/
theorem witness_PlainInstructionsAdvancePC :
    (∃ t, exec (.lda (.mem (.abs 0x1234))) { State.reset with pc := 0xFFFF } = .next t ∧
      t.pc = 0x0002) ∧
    transfersControl (.lda (.mem (.abs 0x1234))) = false :=
  ⟨⟨_, rfl, rfl⟩, rfl⟩

/-! ## Memory -/

/-- Two lists written in different orders. -/
theorem witness_CanonicalMemoriesThatReadAlikeAreEqual :
    Memory.wf (Memory.write (Memory.write [] 0 1) 65535 2) ∧
    Memory.wf (Memory.write (Memory.write [] 65535 2) 0 1) := by
  decide

/-- A state whose step stores a byte at the last address. -/
theorem witness_StepKeepsMemoryCanonical :
    (at0200 [0xCE, 0xFF, 0xFF]).Inv ∧
    ∃ t, step (at0200 [0xCE, 0xFF, 0xFF]) = .next t ∧ t.read 0xFFFF = 0xFF :=
  ⟨by decide +kernel, _, rfl, rfl⟩

/-- STA $0203 at 0x0200 stores where the next instruction is fetched. -/
theorem witness_StoredByteIsFetchedNext :
    ∃ t, exec (.sta (.abs 0x0203)) { State.reset with pc := 0x0200, a := 0xEA } = .next t ∧
      effAddr (.abs 0x0203) { State.reset with pc := 0x0200, a := 0xEA } = t.pc :=
  ⟨_, rfl, rfl⟩

/-- A sum on the next page, and the last one on the base's page. -/
theorem witness_PageCrossingComparesPages :
    crosses (.absX 0x12F0) { State.reset with x := 0x10 } = true ∧
    indexedBase (.absX 0x12F0) { State.reset with x := 0x10 } = some 0x12F0 ∧
    addressOf (.absX 0x12F0) { State.reset with x := 0x10 } = 0x1300 ∧
    crosses (.absX 0x12F0) { State.reset with x := 0x0F } = false :=
  ⟨rfl, rfl, rfl, rfl⟩

/-! ## Control flow and stack -/

/-- Every branch is taken in one of two states and not taken in the other. -/
theorem witness_BranchesOnTheirFlag :
    (∀ cond ∈ [fun f : Flags => f.c, fun f => f.z, fun f => f.n, fun f => f.v],
      cond (flagsOf 0b111111) = true ∧ cond (flagsOf 0b000000) = false) ∧
    (∀ cond ∈ [fun f : Flags => !f.c, fun f => !f.z, fun f => !f.n, fun f => !f.v],
      cond (flagsOf 0b000000) = true ∧ cond (flagsOf 0b111111) = false) := by
  decide

/-- Both counts of a taken branch: the furthest target on the page, and the first on the next. -/
theorem witness_BranchesOnTheirFlag_cycles :
    seen (fun t => (t.pc, t.cycles)) (exec (.bcc 0x7F) { State.reset with pc := 0x027E }) =
      some (0x02FF, 3) ∧
    seen (fun t => (t.pc, t.cycles)) (exec (.bcc 0x7F) { State.reset with pc := 0x027F }) =
      some (0x0300, 4) :=
  ⟨rfl, rfl⟩

/-- The third clause, with SP where the two pushes wrap within page 1. -/
theorem witness_RtsReturnsPastTheCall :
    ∃ t, exec (.jsr 0x4000) (at0200 [0x20, 0x40, 0x00]) = .next t ∧ t.sp = 0x00FE ∧
      ∃ w, exec .rts t = .next w ∧ w.pc = 0x0203 ∧ w.sp = 0x0100 :=
  ⟨_, rfl, rfl, _, rfl, rfl, rfl⟩

theorem witness_PlaPullsAccumulator :
    ∃ t, exec .pha { State.reset with a := 0x9C } = .next t ∧
      ∃ u, exec .pla t = .next u ∧ u.a = 0x9C ∧ u.sp = 0x0100 :=
  ⟨_, rfl, _, rfl, rfl, rfl⟩

theorem witness_PlpPullsStatusByte :
    ∃ t, exec .php { State.reset with flags := flagsOf 0b101011 } = .next t ∧
      ∃ u, exec .plp t = .next u ∧ u.flags = flagsOf 0b101011 ∧ u.sp = 0x0100 :=
  ⟨_, rfl, _, rfl, rfl, rfl⟩

/-! ## The host -/

/-- The last clause: two registers, two addresses, a flag and a hook. -/
theorem witness_DirectWritesReadBack :
    Place.a ≠ .x ∧ Place.mem 0x0000 ≠ .mem 0xFFFF ∧ Place.i ≠ .irqPending := by
  decide

/-- The first clauses: a value one above the place's largest. -/
theorem witness_DirectWritesReadBack_values :
    hostRead (hostWrite State.reset .a 256) .a = 0 ∧
    hostRead (hostWrite State.reset .pc 65537) .pc = 1 ∧
    hostRead (hostWrite State.reset .nmiPending 3) .nmiPending = 1 ∧
    hostRead (hostWrite State.reset (.mem 0xFFFF) 511) (.mem 0xFFFF) = 255 :=
  ⟨rfl, rfl, rfl, rfl⟩

end Sys2Proof.Tests
end

section
/-! The read-after-write law of 20_memory.md, from the laws of the memory. -/

namespace Sys2Proof.Machine

/-- R40: reset memory lists no cell, so every address reads as unlisted. -/
@[simp] theorem State.reset_read (k : Addr) : State.reset.read k = Memory.unlisted := rfl

end Sys2Proof.Machine

namespace Sys2Proof.Proofs

open Sys2Proof.Machine

/-- Settles O17: the law of `MemWrite`, and the reset contents. -/
theorem readAfterWrite : Obligations.ReadAfterWrite :=
  ⟨State.read_write, State.reset_read⟩

end Sys2Proof.Proofs
end

section
/-! The source's encodings of 30_encoding.md, from the decoder's law for each length. -/

namespace Sys2Proof.Proofs

/-- Settles O3: the opcode bytes of LDA # and BCC announce two bytes and that of BRK one, and each
byte's entry in the opcode map names the instruction. -/
theorem sourceEncodingsDecode : Obligations.SourceEncodingsDecode := by
  have lda : decode [0xA9, 0x42] = .ok (.lda (.imm 0x42), []) := decode_two 0x42 [] rfl
  have bcc : decode [0x90, 0xFB] = .ok (.bcc 0xFB, []) := decode_two 0xFB [] rfl
  have offset : (0xFB : Byte).toInt = -5 := by decide
  have brk : decode [0x00] = .ok (.brk, []) := decode_one [] rfl
  exact ⟨lda, bcc, offset, brk⟩

end Sys2Proof.Proofs
end

section
/-! The flags of a comparison as numbers (R104). -/

namespace Sys2Proof.Machine

open Sys2Proof.Claims

/-- Equality of bytes is equality of their values. -/
theorem beq_eq_decide_toNat (r m : Byte) : (r == m) = decide (r.toNat = m.toNat) := by
  simp only [BitVec.toNat_inj, ← beq_eq_decide]

/-- Bit 7 of a difference mod 256. -/
theorem getLsbD_seven_sub (r m : Byte) :
    (r - m).getLsbD 7 = decide (128 ≤ (r.toNat + 256 - m.toNat) % 256) := by
  have hm := m.isLt
  have toNat_sub : (r - m).toNat = (r.toNat + 256 - m.toNat) % 256 := by
    rw [BitVec.toNat_sub]
    omega
  rw [getLsbD_seven, toNat_sub]

/-- `Compare` on bits is the comparison of the two values (R104). -/
theorem Flags.compare_eq (reg m : Byte) (f : Flags) :
    Flags.compare reg m f = compareFlags reg m f := by
  rw [Flags.compare, beq_eq_decide_toNat, getLsbD_seven_sub]
  rfl

/-- All of a comparison, whatever the register: PC, the cycle counter and the flags of `Compare`. -/
theorem startRead_compare (reg : Byte) (o : ReadOperand) (s : State) :
    (startRead o s).mapFlags (Flags.compare reg (readValue o s)) = { s with
      flags := compareFlags reg (readValue o s) s.flags
      pc := s.pc + BitVec.ofNat 16 (1 + o.operandLength)
      cycles := readCycles o s } := by
  rw [State.mapFlags, Flags.compare_eq]
  rfl

end Sys2Proof.Machine
end

section
/-! Read-class instructions: from the row of R65 and what one form does, every form. -/

namespace Sys2Proof.Machine

/-! ## The count of each mode (R95, R100) -/

theorem readCycles_imm (b : Byte) : readCycles (.imm b) = fun _ => 2 := rfl

theorem readCycles_zp (b : Byte) : readCycles (.mem (.zp b)) = fun _ => 3 := by
  funext s
  rw [readCycles_mem, crosses_zp]
  rfl

theorem readCycles_zpX (b : Byte) : readCycles (.mem (.zpX b)) = fun _ => 4 := by
  funext s
  rw [readCycles_mem, crosses_zpX]
  rfl

theorem readCycles_abs (a : Addr) : readCycles (.mem (.abs a)) = fun _ => 4 := by
  funext s
  rw [readCycles_mem, crosses_abs]
  rfl

theorem readCycles_indX (b : Byte) : readCycles (.mem (.indX b)) = fun _ => 6 := by
  funext s
  rw [readCycles_mem, crosses_indX]
  rfl

end Sys2Proof.Machine

namespace Sys2Proof.Proofs

open Sys2Proof.Machine Sys2Proof.Claims

/-- The two operand bytes of a 16-bit operand, high byte first (R46). -/
theorem split_joinBytes (h l : Byte) : Config.operandOrder.split (joinBytes h l) = [h, l] := by
  rw [operandOrder_split, hiByte_joinBytes, loByte_joinBytes]

/-- A mnemonic of the read class: its immediate opcode and its row of R65, and that from every state
and for every operand it completes with `post`, PC past the operand, in the cycles of the operand. -/
structure ReadClass (mk : ReadOperand → Instr) (imm : Byte) (row : MemOpcodes)
    (post : ReadOperand → State → State) : Prop where
  opcode_imm : ∀ b, opcodeOf (mk (.imm b)) = some imm
  opcode_mem : ∀ m, opcodeOf (mk (.mem m)) = row.column m
  operandBytes_eq : ∀ o, (mk o).operandBytes = o.operandBytes
  exec_eq : ∀ o s, exec (mk o) s = .next { post o s with
    pc := s.pc + BitVec.ofNat 16 (1 + o.operandLength)
    cycles := readCycles o s }

section
variable {mk : ReadOperand → Instr} {imm : Byte} {row : MemOpcodes}
  {post : ReadOperand → State → State}

/-- The form with a given opcode byte completes, encoded by it and the operand's bytes. -/
theorem ReadClass.completes (c : ReadClass mk imm row post) {o : ReadOperand} {op : Byte}
    (hop : opcodeOf (mk o) = some op) :
    Completes (mk o) (op :: o.operandBytes) (readCycles o) (post o) := by
  constructor
  · simp only [encode, hop, c.operandBytes_eq]
  · intro s
    rw [c.exec_eq, List.length_cons, o.length_operandBytes, Nat.add_comm]

/-- The form of a memory mode that the row has an opcode for. -/
theorem ReadClass.completes_mem (c : ReadClass mk imm row post) {m : MemMode} {op : Byte}
    (hop : row.column m = some op) :
    Completes (mk (.mem m)) (op :: m.operandBytes) (readCycles (.mem m)) (post (.mem m)) :=
  c.completes ((c.opcode_mem m).trans hop)

theorem ReadClass.completes_imm (c : ReadClass mk imm row post) (b : Byte) :
    Completes (mk (.imm b)) [imm, b] (fun _ => 2) (post (.imm b)) :=
  c.completes (c.opcode_imm b)

theorem ReadClass.completes_zp (c : ReadClass mk imm row post) {op : Byte} (hop : row.zp = some op)
    (b : Byte) : Completes (mk (.mem (.zp b))) [op, b] (fun _ => 3) (post (.mem (.zp b))) :=
  readCycles_zp b ▸ c.completes_mem hop

theorem ReadClass.completes_zpX (c : ReadClass mk imm row post) {op : Byte}
    (hop : row.zpX = some op) (b : Byte) :
    Completes (mk (.mem (.zpX b))) [op, b] (fun _ => 4) (post (.mem (.zpX b))) :=
  readCycles_zpX b ▸ c.completes_mem hop

theorem ReadClass.completes_abs (c : ReadClass mk imm row post) {op : Byte}
    (hop : row.abs = some op) (h l : Byte) :
    Completes (mk (.mem (.abs (joinBytes h l)))) [op, h, l] (fun _ => 4)
      (post (.mem (.abs (joinBytes h l)))) :=
  readCycles_abs (joinBytes h l) ▸ split_joinBytes h l ▸ c.completes_mem hop

theorem ReadClass.completes_absX (c : ReadClass mk imm row post) {op : Byte}
    (hop : row.absX = some op) (h l : Byte) :
    Completes (mk (.mem (.absX (joinBytes h l)))) [op, h, l]
      (fun s => 4 + crossCycle (.absX (joinBytes h l)) s) (post (.mem (.absX (joinBytes h l)))) :=
  split_joinBytes h l ▸ c.completes_mem hop

theorem ReadClass.completes_absY (c : ReadClass mk imm row post) {op : Byte}
    (hop : row.absY = some op) (h l : Byte) :
    Completes (mk (.mem (.absY (joinBytes h l)))) [op, h, l]
      (fun s => 4 + crossCycle (.absY (joinBytes h l)) s) (post (.mem (.absY (joinBytes h l)))) :=
  split_joinBytes h l ▸ c.completes_mem hop

theorem ReadClass.completes_indX (c : ReadClass mk imm row post) {op : Byte}
    (hop : row.indX = some op) (b : Byte) :
    Completes (mk (.mem (.indX b))) [op, b] (fun _ => 6) (post (.mem (.indX b))) :=
  readCycles_indX b ▸ c.completes_mem hop

theorem ReadClass.completes_indY (c : ReadClass mk imm row post) {op : Byte}
    (hop : row.indY = some op) (b : Byte) :
    Completes (mk (.mem (.indY b))) [op, b] (fun s => 5 + crossCycle (.indY b) s)
      (post (.mem (.indY b))) :=
  c.completes_mem hop

/-- A row with the eight columns of the accumulator instructions gives their eight forms. -/
theorem ReadClass.accForms {zp zpX abs absX absY indX indY : Byte}
    (c : ReadClass mk imm
      { zp := some zp, zpX := some zpX, abs := some abs, absX := some absX, absY := some absY,
        indX := some indX, indY := some indY } post) :
    AccForms mk imm zp zpX abs absX absY indX indY post := fun b h l =>
  ⟨c.completes_imm b, c.completes_zp rfl b, c.completes_zpX rfl b, c.completes_abs rfl h l,
    c.completes_absX rfl h l, c.completes_absY rfl h l, c.completes_indX rfl b,
    c.completes_indY rfl b⟩

/-- A row with zero page and absolute only gives the forms of CPX and CPY. -/
theorem ReadClass.plainForms {zp abs : Byte}
    (c : ReadClass mk imm { zp := some zp, abs := some abs } post) :
    PlainForms mk imm zp abs post := fun b h l =>
  ⟨c.completes_imm b, c.completes_zp rfl b, c.completes_abs rfl h l⟩

end

end Sys2Proof.Proofs
end

section
/-! The compares of 42_arith_logic_compare.md as read-class instructions. -/

namespace Sys2Proof.Proofs

open Sys2Proof.Machine Sys2Proof.Claims

/-- CMP, its row of R65 and what it does (R146). -/
theorem readClass_cmp : ReadClass .cmp 0xC9 memOpcodesCmp
    (fun o s => { s with flags := compareFlags s.a (readValue o s) s.flags }) where
  opcode_imm _ := rfl
  opcode_mem _ := rfl
  operandBytes_eq _ := rfl
  exec_eq o s := congrArg Host.Outcome.next (startRead_compare s.a o s)

/-- CPX, its row of R65 and what it does (R147). -/
theorem readClass_cpx : ReadClass .cpx 0xE0 memOpcodesCpx
    (fun o s => { s with flags := compareFlags s.x (readValue o s) s.flags }) where
  opcode_imm _ := rfl
  opcode_mem _ := rfl
  operandBytes_eq _ := rfl
  exec_eq o s := congrArg Host.Outcome.next (startRead_compare s.x o s)

/-- CPY, its row of R65 and what it does (R148). -/
theorem readClass_cpy : ReadClass .cpy 0xC0 memOpcodesCpy
    (fun o s => { s with flags := compareFlags s.y (readValue o s) s.flags }) where
  opcode_imm _ := rfl
  opcode_mem _ := rfl
  operandBytes_eq _ := rfl
  exec_eq o s := congrArg Host.Outcome.next (startRead_compare s.y o s)

/-- Settles O39: each compare is of the read class, `Compare` being the comparison of the values, and
its row of R65 has exactly the forms stated. -/
theorem comparesWriteOnlyFlags : Obligations.ComparesWriteOnlyFlags :=
  ⟨readClass_cmp.accForms, readClass_cpx.plainForms, readClass_cpy.plainForms⟩

end Sys2Proof.Proofs
end

section
/-! The loads of 41_load_store_transfer.md as read-class instructions. -/

namespace Sys2Proof.Machine

open Sys2Proof.Claims

/-- `SetNZ` on the state, with N and Z as numbers (R17). -/
theorem State.setNZ_eq (s : State) (r : Byte) :
    s.setNZ r = { s with flags := nzOf r s.flags } := by
  rw [State.setNZ, State.mapFlags, Flags.setNZ_eq]
  rfl

theorem readCycles_zpY (b : Byte) : readCycles (.mem (.zpY b)) = fun _ => 4 := by
  funext s
  rw [readCycles_mem, crosses_zpY]
  rfl

end Sys2Proof.Machine

namespace Sys2Proof.Proofs

open Sys2Proof.Machine Sys2Proof.Claims

theorem ReadClass.completes_zpY {mk : ReadOperand → Instr} {imm : Byte} {row : MemOpcodes}
    {post : ReadOperand → State → State} (c : ReadClass mk imm row post) {op : Byte}
    (hop : row.zpY = some op) (b : Byte) :
    Completes (mk (.mem (.zpY b))) [op, b] (fun _ => 4) (post (.mem (.zpY b))) :=
  readCycles_zpY b ▸ c.completes_mem hop

/-- LDA, its row of R65 and what it does (R120). -/
theorem readClass_lda : ReadClass .lda 0xA9 memOpcodesLda loadA where
  opcode_imm _ := rfl
  opcode_mem _ := rfl
  operandBytes_eq _ := rfl
  exec_eq o s := congrArg Host.Outcome.next
    (State.setNZ_eq ((startRead o s).setA (readValue o s)) (readValue o s))

/-- LDX, its row of R65 and what it does (R121). -/
theorem readClass_ldx : ReadClass .ldx 0xA2 memOpcodesLdx loadX where
  opcode_imm _ := rfl
  opcode_mem _ := rfl
  operandBytes_eq _ := rfl
  exec_eq o s := congrArg Host.Outcome.next
    (State.setNZ_eq ((startRead o s).setX (readValue o s)) (readValue o s))

/-- LDY, its row of R65 and what it does (R122). -/
theorem readClass_ldy : ReadClass .ldy 0xA0 memOpcodesLdy loadY where
  opcode_imm _ := rfl
  opcode_mem _ := rfl
  operandBytes_eq _ := rfl
  exec_eq o s := congrArg Host.Outcome.next
    (State.setNZ_eq ((startRead o s).setY (readValue o s)) (readValue o s))

/-- Settles O28: LDA is of the read class, and its row of R65 has the accumulator columns. -/
theorem ldaLoadsAccumulator : Obligations.LdaLoadsAccumulator :=
  readClass_lda.accForms

/-- Settles O29: LDX is of the read class, and its row of R65 has the four memory columns stated. -/
theorem ldxLoadsX : Obligations.LdxLoadsX := fun b h l =>
  ⟨readClass_ldx.completes_imm b, readClass_ldx.completes_zp rfl b,
    readClass_ldx.completes_zpY rfl b, readClass_ldx.completes_abs rfl h l,
    readClass_ldx.completes_absY rfl h l⟩

/-- Settles O30: LDY is of the read class, and its row of R65 has the four memory columns stated. -/
theorem ldyLoadsY : Obligations.LdyLoadsY := fun b h l =>
  ⟨readClass_ldy.completes_imm b, readClass_ldy.completes_zp rfl b,
    readClass_ldy.completes_zpX rfl b, readClass_ldy.completes_abs rfl h l,
    readClass_ldy.completes_absX rfl h l⟩

end Sys2Proof.Proofs
end

section
/-! Instructions that store one byte at their effective address: from the row of R65 and what one
form does, every form. -/

namespace Sys2Proof.Proofs

open Sys2Proof.Machine Sys2Proof.Claims

/-- A mnemonic that stores one byte: its row of R65, and that from every state and for every mode it
completes with the byte `v` at the effective address and the rest of the state `post`, PC past the
operand, in the cycles `cyc` of the mode. -/
structure StoreClass (mk : MemMode → Instr) (row : MemOpcodes) (cyc : MemMode → Nat)
    (v : MemMode → State → Byte) (post : MemMode → State → State) : Prop where
  opcode_eq : ∀ m, opcodeOf (mk m) = row.column m
  operandBytes_eq : ∀ m, (mk m).operandBytes = m.operandBytes
  exec_eq : ∀ m s, exec (mk m) s = .next { post m s with
    pc := s.pc + BitVec.ofNat 16 (1 + m.operandLength)
    cycles := cyc m
    mem := (s.write (effAddr m s) (v m s)).mem }

section
variable {mk : MemMode → Instr} {row : MemOpcodes} {cyc : MemMode → Nat}
  {v : MemMode → State → Byte} {post : MemMode → State → State}

/-- The form of a mode that the row has an opcode for, encoded by it and the operand's bytes; the
law of `MemWrite` says what every address reads as. -/
theorem StoreClass.stores (c : StoreClass mk row cyc v post) {m : MemMode} {op : Byte}
    (hop : row.column m = some op) :
    Stores (mk m) (op :: m.operandBytes) (cyc m) (effAddr m) (v m) (post m) := by
  constructor
  · simp only [encode, c.opcode_eq, hop, c.operandBytes_eq]
  · intro s
    refine ⟨_, c.exec_eq m s, ?_, fun k => State.read_write s (effAddr m s) k (v m s)⟩
    rw [List.length_cons, m.length_operandBytes, Nat.add_comm]

/-- The form of a mode with a 16-bit operand, by the operand's two bytes, high byte first (R46). -/
theorem StoreClass.stores_word (c : StoreClass mk row cyc v post) {m : MemMode} {op h l : Byte}
    (hop : row.column m = some op)
    (hbytes : m.operandBytes = Config.operandOrder.split (joinBytes h l)) :
    Stores (mk m) [op, h, l] (cyc m) (effAddr m) (v m) (post m) :=
  split_joinBytes h l ▸ hbytes ▸ c.stores hop

end

end Sys2Proof.Proofs
end

section
/-! The stores and register transfers of 41_load_store_transfer.md. -/

namespace Sys2Proof.Proofs

open Sys2Proof.Machine Sys2Proof.Claims

/-- STA, its row of R65 and what it does (R123). -/
theorem storeClass_sta :
    StoreClass .sta memOpcodesSta storeCycles (fun _ s => s.a) (fun _ s => s) where
  opcode_eq _ := rfl
  operandBytes_eq _ := rfl
  exec_eq _ _ := rfl

/-- STX, its row of R65 and what it does (R124). -/
theorem storeClass_stx :
    StoreClass .stx memOpcodesStx storeCycles (fun _ s => s.x) (fun _ s => s) where
  opcode_eq _ := rfl
  operandBytes_eq _ := rfl
  exec_eq _ _ := rfl

/-- STY, its row of R65 and what it does (R125). -/
theorem storeClass_sty :
    StoreClass .sty memOpcodesSty storeCycles (fun _ s => s.y) (fun _ s => s) where
  opcode_eq _ := rfl
  operandBytes_eq _ := rfl
  exec_eq _ _ := rfl

/-- Settles O31: 0x89 is undocumented, and STA's row of R65 has the seven memory columns stated. -/
theorem staStoresAccumulator : Obligations.StaStoresAccumulator := fun _ h l =>
  ⟨decodeBytes_undocumented 0x89 h l (by decide),
    storeClass_sta.stores rfl, storeClass_sta.stores rfl,
    storeClass_sta.stores_word rfl rfl, storeClass_sta.stores_word rfl rfl,
    storeClass_sta.stores_word rfl rfl,
    storeClass_sta.stores rfl, storeClass_sta.stores rfl⟩

/-- Settles O32: the rows of STX and STY in R65 have the three memory columns stated. -/
theorem stxStyStoreIndexRegisters : Obligations.StxStyStoreIndexRegisters := fun _ _ _ =>
  ⟨storeClass_stx.stores rfl, storeClass_stx.stores rfl, storeClass_stx.stores_word rfl rfl,
    storeClass_sty.stores rfl, storeClass_sty.stores rfl, storeClass_sty.stores_word rfl rfl⟩

/-- Settles O33: each transfer is one byte and ends in `SetNZ` of the byte it copied. -/
theorem registerTransfers : Obligations.RegisterTransfers := by
  have tax (s : State) := State.setNZ_eq ((s.start 1 2).setX s.a) s.a
  have tay (s : State) := State.setNZ_eq ((s.start 1 2).setY s.a) s.a
  have txa (s : State) := State.setNZ_eq ((s.start 1 2).setA s.x) s.x
  have tya (s : State) := State.setNZ_eq ((s.start 1 2).setA s.y) s.y
  exact ⟨⟨rfl, fun s => congrArg _ (tax s)⟩, ⟨rfl, fun s => congrArg _ (tay s)⟩,
    ⟨rfl, fun s => congrArg _ (txa s)⟩, ⟨rfl, fun s => congrArg _ (tya s)⟩⟩

end Sys2Proof.Proofs
end

section
/-! AND, ORA and EOR of 42_arith_logic_compare.md as read-class instructions. -/

namespace Sys2Proof.Machine

open Sys2Proof.Claims

/-- All of a logic operation, whatever the operation on bits: A, the flags of `SetNZ`, PC and the
cycle counter. -/
theorem startRead_combineA (f : Byte → Byte → Byte) (o : ReadOperand) (s : State) :
    ((startRead o s).setA (f s.a (readValue o s))).setNZ (f s.a (readValue o s)) =
      { combineA f o s with
        pc := s.pc + BitVec.ofNat 16 (1 + o.operandLength)
        cycles := readCycles o s } := by
  rw [State.setNZ_eq]
  rfl

end Sys2Proof.Machine

namespace Sys2Proof.Proofs

open Sys2Proof.Machine Sys2Proof.Claims

/-- AND, its row of R65 and what it does (R142). -/
theorem readClass_and : ReadClass .and 0x29 memOpcodesAnd (combineA fun a m => a &&& m) where
  opcode_imm _ := rfl
  opcode_mem _ := rfl
  operandBytes_eq _ := rfl
  exec_eq o s := congrArg Host.Outcome.next (startRead_combineA (fun a m => a &&& m) o s)

/-- ORA, its row of R65 and what it does (R143). -/
theorem readClass_ora : ReadClass .ora 0x09 memOpcodesOra (combineA fun a m => a ||| m) where
  opcode_imm _ := rfl
  opcode_mem _ := rfl
  operandBytes_eq _ := rfl
  exec_eq o s := congrArg Host.Outcome.next (startRead_combineA (fun a m => a ||| m) o s)

/-- EOR, its row of R65 and what it does (R144). -/
theorem readClass_eor : ReadClass .eor 0x49 memOpcodesEor (combineA fun a m => a ^^^ m) where
  opcode_imm _ := rfl
  opcode_mem _ := rfl
  operandBytes_eq _ := rfl
  exec_eq o s := congrArg Host.Outcome.next (startRead_combineA (fun a m => a ^^^ m) o s)

/-- Settles O37: each of the three is of the read class, and its row of R65 has the accumulator
columns. -/
theorem logicOnAccumulator : Obligations.LogicOnAccumulator :=
  ⟨readClass_and.accForms, readClass_ora.accForms, readClass_eor.accForms⟩

end Sys2Proof.Proofs
end

section
/-! The results of shifts, rotates and counts as numbers (R160 to R163, R166 to R169). -/

namespace Sys2Proof.Machine

open Sys2Proof.Claims

/-- A byte shifted left is twice its value, mod 256. -/
theorem shiftLeft_one_eq (v : Byte) : v <<< 1 = BitVec.ofNat 8 (2 * v.toNat) := by
  apply BitVec.eq_of_toNat_eq
  rw [BitVec.toNat_shiftLeft, BitVec.toNat_ofNat, Nat.shiftLeft_eq, Nat.mul_comm]

/-- A byte shifted right is half its value. -/
theorem ushiftRight_one_eq (v : Byte) : v >>> 1 = BitVec.ofNat 8 (v.toNat / 2) := by
  apply BitVec.eq_of_toNat_eq
  have := v.isLt
  rw [BitVec.toNat_ushiftRight, BitVec.toNat_ofNat, Nat.shiftRight_eq_div_pow]
  omega

/-- A bit entering at bit 0 adds to the shifted byte: the shift left leaves bit 0 clear. -/
theorem shiftLeft_one_or_bit8 (v : Byte) (c : Bool) :
    v <<< 1 ||| bit8 c = BitVec.ofNat 8 (2 * v.toNat + c.toNat) := by
  have disjoint : v <<< 1 &&& bit8 c = 0 := by revert v c; decide +kernel
  rw [← BitVec.add_eq_or_of_and_eq_zero _ _ disjoint, shiftLeft_one_eq, BitVec.ofNat_add,
    ← toNat_bit8, BitVec.ofNat_toNat, BitVec.setWidth_eq]

/-- A bit entering at bit 7 adds 128 to the shifted byte: the shift right leaves bit 7 clear. -/
theorem ushiftRight_one_or_bit8 (v : Byte) (c : Bool) :
    v >>> 1 ||| bit8 c <<< 7 = BitVec.ofNat 8 (v.toNat / 2 + 128 * c.toNat) := by
  have disjoint : v >>> 1 &&& bit8 c <<< 7 = 0 := by revert v c; decide +kernel
  have toTop : bit8 c <<< 7 = BitVec.ofNat 8 (128 * c.toNat) := by cases c <;> rfl
  rw [← BitVec.add_eq_or_of_and_eq_zero _ _ disjoint, ushiftRight_one_eq, toTop, BitVec.ofNat_add]

theorem shiftAsl_eq :
    shiftAsl = fun v _ => (BitVec.ofNat 8 (2 * v.toNat), decide (128 ≤ v.toNat)) := by
  funext v _
  exact Prod.ext (shiftLeft_one_eq v) (getLsbD_seven v)

theorem shiftLsr_eq :
    shiftLsr = fun v _ => (BitVec.ofNat 8 (v.toNat / 2), decide (v.toNat % 2 = 1)) := by
  funext v _
  exact Prod.ext (ushiftRight_one_eq v) (getLsbD_zero v)

theorem shiftRol_eq :
    shiftRol = fun v c => (BitVec.ofNat 8 (2 * v.toNat + c.toNat), decide (128 ≤ v.toNat)) := by
  funext v c
  exact Prod.ext (shiftLeft_one_or_bit8 v c) (getLsbD_seven v)

theorem shiftRor_eq :
    shiftRor =
      fun v c => (BitVec.ofNat 8 (v.toNat / 2 + 128 * c.toNat), decide (v.toNat % 2 = 1)) := by
  funext v c
  exact Prod.ext (ushiftRight_one_or_bit8 v c) (getLsbD_zero v)

theorem add_one_eq_plusOne (v : Byte) : v + 1 = plusOne v := by
  apply BitVec.eq_of_toNat_eq
  rw [plusOne, BitVec.toNat_add, BitVec.toNat_ofNat, Nat.mod_mod]
  rfl

theorem sub_one_eq_minusOne (v : Byte) : v - 1 = minusOne v := by
  apply BitVec.eq_of_toNat_eq
  rw [minusOne, BitVec.toNat_sub, BitVec.toNat_ofNat, Nat.mod_mod, Nat.add_comm]
  rfl

/-- The flags of a shift or rotate, with N and Z as numbers (R17). -/
theorem Flags.afterShift_eq (res : ShiftResult) (v : Byte) (f : Flags) :
    Flags.afterShift (res v f.c) f = shiftFlags res v f :=
  Flags.setNZ_eq (res v f.c).1 { f with c := (res v f.c).2 }

/-- All of a shift or rotate of the accumulator: A, the flags, PC and the cycle counter. -/
theorem shiftLoc_acc (res : ShiftResult) (s : State) :
    shiftLoc res .acc s = { s with
      a := (res s.a s.flags.c).1
      flags := shiftFlags res s.a s.flags
      pc := s.pc + 1
      cycles := 2 } := by
  rw [← Flags.afterShift_eq]
  rfl

/-- All of a shift or rotate of a memory operand: the byte at its effective address, the flags, PC
and the cycle counter. -/
theorem shiftLoc_mem (res : ShiftResult) (m : MemMode) (s : State) :
    shiftLoc res (.mem m) s = { s with
      flags := shiftFlags res (s.read (effAddr m s)) s.flags
      pc := s.pc + BitVec.ofNat 16 (1 + m.operandLength)
      cycles := rmwCycles m
      mem := (s.write (effAddr m s) (res (s.read (effAddr m s)) s.flags.c).1).mem } := by
  rw [← Flags.afterShift_eq]
  rfl

end Sys2Proof.Machine
end

section
/-! The shifts and rotates of 43_shift_incdec.md: from the row of R65 and what one form does, every
form; and the counts of the index registers. -/

namespace Sys2Proof.Proofs

open Sys2Proof.Machine Sys2Proof.Claims

/-- A shift or rotate: its accumulator opcode and its row of R65, and that at every location it
completes with `res` of the value there and the old carry. -/
structure ShiftClass (mk : Loc → Instr) (acc : Byte) (row : MemOpcodes) (res : ShiftResult) :
    Prop where
  opcode_acc : opcodeOf (mk .acc) = some acc
  opcode_mem : ∀ m, opcodeOf (mk (.mem m)) = row.column m
  operandBytes_eq : ∀ l, (mk l).operandBytes = l.operandBytes
  exec_eq : ∀ l s, exec (mk l) s = .next (shiftLoc res l s)

section
variable {mk : Loc → Instr} {acc : Byte} {row : MemOpcodes} {res : ShiftResult}

theorem ShiftClass.completes_acc (c : ShiftClass mk acc row res) :
    Completes (mk .acc) [acc] (fun _ => 2)
      (fun s => { s with a := (res s.a s.flags.c).1, flags := shiftFlags res s.a s.flags }) := by
  constructor
  · simp only [encode, c.opcode_acc, c.operandBytes_eq, Loc.operandBytes]
  · intro s
    rw [c.exec_eq, shiftLoc_acc]
    rfl

/-- The memory forms store one byte, the result, at their effective address. -/
theorem ShiftClass.storeClass (c : ShiftClass mk acc row res) :
    StoreClass (fun m => mk (.mem m)) row rmwCycles
      (fun m s => (res (s.read (effAddr m s)) s.flags.c).1)
      (fun m s => { s with flags := shiftFlags res (s.read (effAddr m s)) s.flags }) where
  opcode_eq := c.opcode_mem
  operandBytes_eq m := c.operandBytes_eq (.mem m)
  exec_eq m s := (c.exec_eq (.mem m) s).trans (congrArg _ (shiftLoc_mem res m s))

/-- A row with the four columns of the shifts gives, with the accumulator, their five forms. -/
theorem ShiftClass.shiftForms {zp zpX abs absX : Byte}
    (c : ShiftClass mk acc
      { zp := some zp, zpX := some zpX, abs := some abs, absX := some absX } res) :
    ShiftForms mk acc zp zpX abs absX res :=
  ⟨c.completes_acc, fun _ _ _ =>
    ⟨c.storeClass.stores rfl, c.storeClass.stores rfl,
      c.storeClass.stores_word rfl rfl, c.storeClass.stores_word rfl rfl⟩⟩

end

/-- ASL, its row of R65 and what it does (R160). -/
theorem shiftClass_asl : ShiftClass .asl 0x0A memOpcodesAsl shiftAsl where
  opcode_acc := rfl
  opcode_mem _ := rfl
  operandBytes_eq _ := rfl
  exec_eq _ _ := rfl

/-- LSR, its row of R65 and what it does (R161). -/
theorem shiftClass_lsr : ShiftClass .lsr 0x4A memOpcodesLsr shiftLsr where
  opcode_acc := rfl
  opcode_mem _ := rfl
  operandBytes_eq _ := rfl
  exec_eq _ _ := rfl

/-- ROL, its row of R65 and what it does (R162). -/
theorem shiftClass_rol : ShiftClass .rol 0x2A memOpcodesRol shiftRol where
  opcode_acc := rfl
  opcode_mem _ := rfl
  operandBytes_eq _ := rfl
  exec_eq _ _ := rfl

/-- ROR, its row of R65 and what it does (R163). -/
theorem shiftClass_ror : ShiftClass .ror 0x6A memOpcodesRor shiftRor where
  opcode_acc := rfl
  opcode_mem _ := rfl
  operandBytes_eq _ := rfl
  exec_eq _ _ := rfl

/-- Settles O40: the five forms of ASL, the result and carry being those of `shiftAsl_eq`. -/
theorem aslShiftsLeft : Obligations.AslShiftsLeft := by
  rw [Obligations.AslShiftsLeft, ← shiftAsl_eq]
  exact shiftClass_asl.shiftForms

/-- Settles O41: the five forms of LSR, the result and carry being those of `shiftLsr_eq`. -/
theorem lsrShiftsRight : Obligations.LsrShiftsRight := by
  rw [Obligations.LsrShiftsRight, ← shiftLsr_eq]
  exact shiftClass_lsr.shiftForms

/-- Settles O42: the five forms of ROL, the result and carry being those of `shiftRol_eq`. -/
theorem rolRotatesLeft : Obligations.RolRotatesLeft := by
  rw [Obligations.RolRotatesLeft, ← shiftRol_eq]
  exact shiftClass_rol.shiftForms

/-- Settles O43: the five forms of ROR, the result and carry being those of `shiftRor_eq`. -/
theorem rorRotatesRight : Obligations.RorRotatesRight := by
  rw [Obligations.RorRotatesRight, ← shiftRor_eq]
  exact shiftClass_ror.shiftForms

/-- Settles O45: each count is one byte, adds or subtracts 1 on the register and ends in `SetNZ` of
the result. -/
theorem indexRegistersCount : Obligations.IndexRegistersCount := by
  simp only [Obligations.IndexRegistersCount, ← add_one_eq_plusOne, ← sub_one_eq_minusOne]
  have inx (s : State) := State.setNZ_eq ((s.start 1 2).setX (s.x + 1)) (s.x + 1)
  have iny (s : State) := State.setNZ_eq ((s.start 1 2).setY (s.y + 1)) (s.y + 1)
  have dex (s : State) := State.setNZ_eq ((s.start 1 2).setX (s.x - 1)) (s.x - 1)
  have dey (s : State) := State.setNZ_eq ((s.start 1 2).setY (s.y - 1)) (s.y - 1)
  exact ⟨⟨rfl, fun s => congrArg _ (inx s)⟩, ⟨rfl, fun s => congrArg _ (iny s)⟩,
    ⟨rfl, fun s => congrArg _ (dex s)⟩, ⟨rfl, fun s => congrArg _ (dey s)⟩⟩

end Sys2Proof.Proofs
end

section
/-! The branches of 44_control_flow.md: the target and the page test of the common operation as
numbers, and from them every branch that runs it. -/

namespace Sys2Proof.Machine

open Sys2Proof.Claims

/-- The target of a branch, counted from its opcode byte: sign extension keeps the offset's value,
and sums mod 65536 may be taken before or after the conversion (R98). -/
theorem branchTarget_eq (s : State) (off : Byte) :
    branchTarget (s.pc + 2) off = branchGoal s off := by
  have pcAfter : BitVec.ofInt 16 (s.pc.toNat + 2) = s.pc + 2 := by
    rw [BitVec.ofInt_add, BitVec.ofInt_natCast, BitVec.ofNat_toNat, BitVec.setWidth_eq]
    rfl
  rw [branchGoal, BitVec.ofInt_add, pcAfter]
  rfl

/-- The page is the address divided by 256 (R86). -/
theorem pageDiffers_eq (base ea : Addr) :
    pageDiffers base ea = !decide (base.toNat / 256 = ea.toNat / 256) := by
  rw [pageDiffers, bne, beq_eq_decide_toNat, toNat_hiByte, toNat_hiByte]

/-- All of a taken branch: PC and the cycle counter (R180). -/
theorem branch_taken (off : Byte) (s : State) :
    branch true off s = { s with
      pc := branchGoal s off
      cycles := if (branchGoal s off).toNat / 256 = (s.pc + 2).toNat / 256 then 3 else 4 } := by
  rw [branch_true, branchTarget_eq, pageDiffers_eq]
  by_cases samePage : (branchGoal s off).toNat / 256 = (s.pc + 2).toNat / 256
  · rw [if_pos samePage, samePage, decide_eq_true rfl]
    rfl
  · rw [if_neg samePage, decide_eq_false (Ne.symm samePage)]
    rfl

end Sys2Proof.Machine

namespace Sys2Proof.Proofs

open Sys2Proof.Machine Sys2Proof.Claims

/-- A mnemonic with a branch's encoding that runs the common operation on `cond` of the flags. -/
theorem branches_of_exec_eq {mk : Byte → Instr} {op : Byte} {cond : Flags → Bool}
    (encode_eq : ∀ off, encode (mk off) = [op, off])
    (exec_eq : ∀ off s, exec (mk off) s = .next (branch (cond s.flags) off s)) :
    Branches mk op cond := by
  refine fun off => ⟨encode_eq off, fun s => ⟨fun untaken => ?_, fun taken => ?_⟩⟩
  · rw [exec_eq, untaken, branch_false]
    rfl
  · rw [exec_eq, taken, branch_taken]

/-- Settles O46: each of the eight runs the common branch operation on its flag (R181 to R188). -/
theorem branchesOnTheirFlag : Obligations.BranchesOnTheirFlag := by
  refine ⟨?bcc, ?bcs, ?beq, ?bne, ?bmi, ?bpl, ?bvc, ?bvs⟩ <;>
    exact branches_of_exec_eq (fun _ => rfl) fun _ _ => rfl

end Sys2Proof.Proofs
end

section
/-! The round trip of the decoder and the encoder of 30_encoding.md: the operand bytes only fill in
the operand of the form that the opcode byte names, and each form has its opcode byte. -/

namespace Sys2Proof

/-! ## Filling in an operand -/

/-- The same mode with its operand taken from the two bytes after the opcode (R61, R62). -/
def MemMode.withOperand (b1 b2 : Byte) : MemMode → MemMode
  | .zp _ => .zp b1
  | .zpX _ => .zpX b1
  | .zpY _ => .zpY b1
  | .abs _ => .abs (joinBytes b1 b2)
  | .absX _ => .absX (joinBytes b1 b2)
  | .absY _ => .absY (joinBytes b1 b2)
  | .indX _ => .indX b1
  | .indY _ => .indY b1

/-- The same operand form with its operand taken from the two bytes after the opcode. -/
def ReadOperand.withOperand (b1 b2 : Byte) : ReadOperand → ReadOperand
  | .imm _ => .imm b1
  | .mem m => .mem (m.withOperand b1 b2)

/-- The same location form with its operand taken from the two bytes after the opcode. -/
def Loc.withOperand (b1 b2 : Byte) : Loc → Loc
  | .acc => .acc
  | .mem m => .mem (m.withOperand b1 b2)

/-- The same instruction form with its operand taken from the two bytes after the opcode. -/
def Instr.withOperand (b1 b2 : Byte) : Instr → Instr
  | .lda o => .lda (o.withOperand b1 b2)
  | .ldx o => .ldx (o.withOperand b1 b2)
  | .ldy o => .ldy (o.withOperand b1 b2)
  | .adc o => .adc (o.withOperand b1 b2)
  | .sbc o => .sbc (o.withOperand b1 b2)
  | .and o => .and (o.withOperand b1 b2)
  | .ora o => .ora (o.withOperand b1 b2)
  | .eor o => .eor (o.withOperand b1 b2)
  | .cmp o => .cmp (o.withOperand b1 b2)
  | .cpx o => .cpx (o.withOperand b1 b2)
  | .cpy o => .cpy (o.withOperand b1 b2)
  | .sta m => .sta (m.withOperand b1 b2)
  | .stx m => .stx (m.withOperand b1 b2)
  | .sty m => .sty (m.withOperand b1 b2)
  | .bit m => .bit (m.withOperand b1 b2)
  | .inc m => .inc (m.withOperand b1 b2)
  | .dec m => .dec (m.withOperand b1 b2)
  | .asl l => .asl (l.withOperand b1 b2)
  | .lsr l => .lsr (l.withOperand b1 b2)
  | .rol l => .rol (l.withOperand b1 b2)
  | .ror l => .ror (l.withOperand b1 b2)
  | .bcc _ => .bcc b1
  | .bcs _ => .bcs b1
  | .beq _ => .beq b1
  | .bne _ => .bne b1
  | .bmi _ => .bmi b1
  | .bpl _ => .bpl b1
  | .bvc _ => .bvc b1
  | .bvs _ => .bvs b1
  | .jmpAbs _ => .jmpAbs (joinBytes b1 b2)
  | .jmpInd _ => .jmpInd (joinBytes b1 b2)
  | .jsr _ => .jsr (joinBytes b1 b2)
  | i => i

/-! ### What filling in an operand keeps, and the bytes it puts in -/

/-- Two instructions that differ at most in their operand: one opcode byte, one column of R65, one
length. -/
structure Instr.SameForm (i j : Instr) : Prop where
  opcode_eq : opcodeOf i = opcodeOf j
  wellFormed_eq : i.WellFormed = j.WellFormed
  length_eq : i.length = j.length

theorem Instr.withOperand_sameForm (b1 b2 : Byte) (i : Instr) :
    (i.withOperand b1 b2).SameForm i := by
  cases i
  case lda o | ldx o | ldy o | adc o | sbc o | and o | ora o | eor o | cmp o | cpx o | cpy o =>
    cases o with
    | imm v => exact ⟨rfl, rfl, rfl⟩
    | mem m => cases m <;> exact ⟨rfl, rfl, rfl⟩
  case asl l | lsr l | rol l | ror l =>
    cases l with
    | acc => exact ⟨rfl, rfl, rfl⟩
    | mem m => cases m <;> exact ⟨rfl, rfl, rfl⟩
  case sta m | stx m | sty m | bit m | inc m | dec m => cases m <;> exact ⟨rfl, rfl, rfl⟩
  all_goals exact ⟨rfl, rfl, rfl⟩

/-- The length of an instruction: its opcode byte and its operand bytes (R60). -/
theorem Instr.length_eq (i : Instr) : i.length = 1 + i.operandBytes.length := by
  cases i
  case lda o | ldx o | ldy o | adc o | sbc o | and o | ora o | eor o | cmp o | cpx o | cpy o =>
    exact congrArg (1 + ·) o.length_operandBytes.symm
  case asl l | lsr l | rol l | ror l => exact congrArg (1 + ·) l.length_operandBytes.symm
  case sta m | stx m | sty m | bit m | inc m | dec m =>
    exact congrArg (1 + ·) m.length_operandBytes.symm
  all_goals rfl

/-- The operand bytes of a filled mode are the first of the two bytes it was filled from. -/
theorem MemMode.operandBytes_withOperand (b1 b2 : Byte) (m : MemMode) :
    (m.withOperand b1 b2).operandBytes = [b1, b2].take m.operandBytes.length := by
  cases m
  case abs | absX | absY => exact Proofs.split_joinBytes b1 b2
  all_goals rfl

theorem Instr.operandBytes_withOperand (b1 b2 : Byte) (i : Instr) :
    (i.withOperand b1 b2).operandBytes = [b1, b2].take i.operandBytes.length := by
  cases i
  case lda o | ldx o | ldy o | adc o | sbc o | and o | ora o | eor o | cmp o | cpx o | cpy o =>
    cases o with
    | imm v => rfl
    | mem m => exact m.operandBytes_withOperand b1 b2
  case asl l | lsr l | rol l | ror l =>
    cases l with
    | acc => rfl
    | mem m => exact m.operandBytes_withOperand b1 b2
  case sta m | stx m | sty m | bit m | inc m | dec m => exact m.operandBytes_withOperand b1 b2
  case jmpAbs | jmpInd | jsr => exact Proofs.split_joinBytes b1 b2
  all_goals rfl

/-- A mode filled with its own operand bytes is itself, whatever follows them. -/
theorem MemMode.withOperand_operandBytes (m : MemMode) (rest : List Byte) :
    m.withOperand ((m.operandBytes ++ rest).getD 0 0) ((m.operandBytes ++ rest).getD 1 0) = m := by
  cases m
  case abs a => exact congrArg MemMode.abs (joinBytes_hiByte_loByte a)
  case absX a => exact congrArg MemMode.absX (joinBytes_hiByte_loByte a)
  case absY a => exact congrArg MemMode.absY (joinBytes_hiByte_loByte a)
  all_goals rfl

theorem ReadOperand.withOperand_operandBytes (o : ReadOperand) (rest : List Byte) :
    o.withOperand ((o.operandBytes ++ rest).getD 0 0) ((o.operandBytes ++ rest).getD 1 0) = o := by
  cases o with
  | imm v => rfl
  | mem m => exact congrArg ReadOperand.mem (m.withOperand_operandBytes rest)

theorem Loc.withOperand_operandBytes (l : Loc) (rest : List Byte) :
    l.withOperand ((l.operandBytes ++ rest).getD 0 0) ((l.operandBytes ++ rest).getD 1 0) = l := by
  cases l with
  | acc => rfl
  | mem m => exact congrArg Loc.mem (m.withOperand_operandBytes rest)

/-- An instruction filled with its own operand bytes is itself, whatever follows them. -/
theorem Instr.withOperand_operandBytes (i : Instr) (rest : List Byte) :
    i.withOperand ((i.operandBytes ++ rest).getD 0 0) ((i.operandBytes ++ rest).getD 1 0) = i := by
  cases i
  case lda o | ldx o | ldy o | adc o | sbc o | and o | ora o | eor o | cmp o | cpx o | cpy o =>
    exact congrArg _ (o.withOperand_operandBytes rest)
  case asl l | lsr l | rol l | ror l => exact congrArg _ (l.withOperand_operandBytes rest)
  case sta m | stx m | sty m | bit m | inc m | dec m =>
    exact congrArg _ (m.withOperand_operandBytes rest)
  case jmpAbs a | jmpInd a | jsr a => exact congrArg _ (joinBytes_hiByte_loByte a)
  all_goals rfl

/-! ## The opcode map fills in operands -/

/-- In every row of R64 an entry makes of two operand bytes what it makes of two zero bytes, the
operand filled in. -/
theorem opcodeRow_withOperand {high : Nat} {entry : Nat × (Byte → Byte → Instr)}
    (member : entry ∈ opcodeRow high) (b1 b2 : Byte) :
    entry.2 b1 b2 = (entry.2 0 0).withOperand b1 b2 := by
  have fills : (opcodeRow high).map (fun e => (e.1, fun b1 b2 => (e.2 0 0).withOperand b1 b2)) =
      (opcodeRow high).map id := by
    unfold opcodeRow
    split <;> rfl
  have same := List.map_inj_left.mp fills entry member
  exact congrFun₂ (congrArg Prod.snd same).symm b1 b2

/-- What three bytes decode to: the form the opcode byte alone names, the operand filled in (R63). -/
theorem decodeBytes_eq_withOperand (b0 b1 b2 : Byte) :
    decodeBytes b0 b1 b2 = (decodeBytes b0 0 0).withOperand b1 b2 := by
  unfold decodeBytes
  split
  · next build found => exact opcodeRow_withOperand (mem_of_lookup found) b1 b2
  · rfl

/-- The form that an opcode byte names has that opcode byte, for each of the 256 (R65, R66). -/
theorem decodeBytes_zero_opcode (op : Byte) :
    (decodeBytes op 0 0).WellFormed = true ∧ opcodeOf (decodeBytes op 0 0) = some op := by
  revert op; decide +kernel

theorem wellFormed_decodeBytes (b0 b1 b2 : Byte) : (decodeBytes b0 b1 b2).WellFormed = true := by
  rw [decodeBytes_eq_withOperand, (Instr.withOperand_sameForm b1 b2 _).wellFormed_eq]
  exact (decodeBytes_zero_opcode b0).1

theorem opcodeOf_decodeBytes (b0 b1 b2 : Byte) : opcodeOf (decodeBytes b0 b1 b2) = some b0 := by
  rw [decodeBytes_eq_withOperand, (Instr.withOperand_sameForm b1 b2 _).opcode_eq]
  exact (decodeBytes_zero_opcode b0).2

/-- The opcode byte alone decides the length (R60, R63). -/
theorem length_decodeBytes (b0 b1 b2 : Byte) : (decodeBytes b0 b1 b2).length = opcodeLength b0 := by
  rw [decodeBytes_eq_withOperand, (Instr.withOperand_sameForm b1 b2 _).length_eq, opcodeLength]

theorem operandBytes_decodeBytes (b0 b1 b2 : Byte) :
    (decodeBytes b0 b1 b2).operandBytes = [b1, b2].take (opcodeLength b0 - 1) := by
  rw [decodeBytes_eq_withOperand, Instr.operandBytes_withOperand, opcodeLength, Instr.length_eq,
    Nat.add_sub_cancel_left]

theorem opcodeLength_bounds (op : Byte) : 1 ≤ opcodeLength op ∧ opcodeLength op ≤ 3 := by
  revert op; decide +kernel

/-- The bytes of what three bytes decode to are the first of them. -/
theorem encode_decodeBytes (b0 b1 b2 : Byte) :
    encode (decodeBytes b0 b1 b2) = [b0, b1, b2].take (opcodeLength b0) := by
  have positive := (opcodeLength_bounds b0).1
  have length_eq : opcodeLength b0 = opcodeLength b0 - 1 + 1 := by omega
  rw [length_eq, List.take_succ_cons, ← operandBytes_decodeBytes]
  simp only [encode, opcodeOf_decodeBytes]

/-! ## Every well-formed form has its opcode byte -/

theorem isSome_opcodeOf {i : Instr} (wellFormed : i.WellFormed = true) :
    (opcodeOf i).isSome = true := by
  refine Eq.trans ?_ wellFormed
  cases i
  case lda o | ldx o | ldy o | adc o | sbc o | and o | ora o | eor o | cmp o | cpx o | cpy o =>
    cases o with
    | imm v => rfl
    | mem m => cases m <;> rfl
  case asl l | lsr l | rol l | ror l =>
    cases l with
    | acc => rfl
    | mem m => cases m <;> rfl
  case sta m | stx m | sty m | bit m | inc m | dec m => cases m <;> rfl
  case illegal op => exact wellFormed.symm
  all_goals rfl

/-- The opcode byte of a well-formed instruction names its form. -/
theorem decodeBytes_opcodeOf {i : Instr} {op : Byte} (wellFormed : i.WellFormed = true)
    (opcode : opcodeOf i = some op) (b1 b2 : Byte) :
    decodeBytes op b1 b2 = i.withOperand b1 b2 := by
  cases i
  case lda o | ldx o | ldy o | adc o | sbc o | and o | ora o | eor o | cmp o | cpx o | cpy o =>
    cases o with
    | imm v => cases opcode; rfl
    | mem m => cases m <;> cases opcode <;> rfl
  case asl l | lsr l | rol l | ror l =>
    cases l with
    | acc => cases opcode; rfl
    | mem m => cases m <;> cases opcode <;> rfl
  case sta m | stx m | sty m | bit m | inc m | dec m => cases m <;> cases opcode <;> rfl
  case illegal op =>
    cases opcode
    exact decodeBytes_undocumented op b1 b2 wellFormed
  all_goals cases opcode; rfl

theorem opcodeLength_opcodeOf {i : Instr} {op : Byte} (wellFormed : i.WellFormed = true)
    (opcode : opcodeOf i = some op) : opcodeLength op = 1 + i.operandBytes.length := by
  rw [opcodeLength, decodeBytes_opcodeOf wellFormed opcode,
    (Instr.withOperand_sameForm 0 0 i).length_eq, i.length_eq]

end Sys2Proof

namespace Sys2Proof.Proofs

/-- Settles O1: the opcode byte names the form and announces the operand bytes, and the form filled
with its own operand bytes is the instruction. -/
theorem decodeOfEncodeGivesBack : Obligations.DecodeOfEncodeGivesBack := by
  intro i rest wellFormed
  obtain ⟨op, opcode⟩ := Option.isSome_iff_exists.mp (isSome_opcodeOf wellFormed)
  have announced := opcodeLength_opcodeOf wellFormed opcode
  have encoded : encode i = op :: i.operandBytes := by simp only [encode, opcode]
  have allThere : ¬(i.operandBytes ++ rest).length + 1 < opcodeLength op := by
    rw [announced, List.length_append]
    omega
  rw [encoded, List.cons_append, decode, if_neg allThere, decodeBytes_opcodeOf wellFormed opcode,
    i.withOperand_operandBytes, announced, Nat.add_sub_cancel_left, List.drop_left]

/-- Settles O2: the opcode byte names a well-formed form with that opcode byte, and filling in the
operand puts in the first of the two bytes after it. -/
theorem encodeOfDecodeGivesBack : Obligations.EncodeOfDecodeGivesBack := fun b0 b1 b2 =>
  ⟨wellFormed_decodeBytes b0 b1 b2, encode_decodeBytes b0 b1 b2, length_decodeBytes b0 b1 b2,
    opcodeLength_bounds b0⟩

end Sys2Proof.Proofs
end

section
/-! The canonical form of memory: each step keeps it, and it has one list for each contents. -/

namespace Sys2Proof.Machine

/-- An instruction that completes keeps memory in canonical form: it stores at most two bytes. -/
theorem exec_keeps_wf {i : Instr} {s t : State} (h : exec i s = .next t) (wf : s.mem.wf) : t.mem.wf := by
  obtain same | ⟨a, v, one⟩ | ⟨a, b, v, w, two⟩ := exec_mem_cases h
  · rw [same]
    exact wf
  · rw [one]
    exact Memory.write_wf v wf a.isLt
  · rw [two]
    exact Memory.write_wf w (Memory.write_wf v wf a.isLt) b.isLt

/-- The canonical form of a list that begins with a cell. -/
theorem Memory.wf_cons {k : Nat} {v : Byte} {m : Memory} (h : Memory.wf ((k, v) :: m)) :
    (∀ c ∈ m, k < c.1) ∧ k < 65536 ∧ v ≠ Memory.unlisted ∧ m.wf := by
  obtain ⟨sorted, cells⟩ := h
  obtain ⟨below, sorted⟩ := List.pairwise_cons.mp sorted
  obtain ⟨⟨key, value⟩, cells⟩ := List.forall_mem_cons.mp cells
  exact ⟨below, key, value, sorted, cells⟩

theorem Memory.read_cons_self (k : Nat) (v : Byte) (m : Memory) :
    Memory.read ((k, v) :: m) k = v := if_pos rfl

theorem Memory.read_cons_of_ne {j k : Nat} (h : j ≠ k) (v : Byte) (m : Memory) :
    Memory.read ((j, v) :: m) k = m.read k := if_neg h

/-- A canonical memory does not read like one whose keys are all larger than its first. -/
theorem Memory.read_cons_ne_of_lt_all {k : Nat} {v : Byte} {m m' : Memory}
    (wf : Memory.wf ((k, v) :: m)) (above : ∀ c ∈ m', k < c.1) :
    Memory.read ((k, v) :: m) k ≠ m'.read k := by
  obtain ⟨-, -, listed, -⟩ := Memory.wf_cons wf
  rw [Memory.read_cons_self, Memory.read_of_lt_all above]
  exact listed

/-- The first keys of two canonical memories that read alike are not one below the other. -/
theorem Memory.not_lt_of_read_eq {j k : Nat} {v w : Byte} {m m' : Memory}
    (wf : Memory.wf ((j, v) :: m)) (wf' : Memory.wf ((k, w) :: m'))
    (alike : ∀ key, key < 65536 → Memory.read ((j, v) :: m) key = Memory.read ((k, w) :: m') key) :
    ¬j < k := by
  intro lt
  obtain ⟨-, inRange, -, -⟩ := Memory.wf_cons wf
  obtain ⟨below, -, -, -⟩ := Memory.wf_cons wf'
  refine Memory.read_cons_ne_of_lt_all wf ?_ (alike j inRange)
  exact List.forall_mem_cons.mpr ⟨lt, fun c member => Nat.lt_trans lt (below c member)⟩

/-- Two canonical memories that read alike are one list: their first cells are the same cell, and
without it they still read alike. -/
theorem Memory.eq_of_read_eq : ∀ {m m' : Memory}, m.wf → m'.wf →
    (∀ key, key < 65536 → m.read key = m'.read key) → m = m'
  | [], [], _, _, _ => rfl
  | [], (k, w) :: m', _, wf', alike => by
    obtain ⟨-, inRange, -, -⟩ := Memory.wf_cons wf'
    exact absurd (alike k inRange).symm (Memory.read_cons_ne_of_lt_all wf' nofun)
  | (j, v) :: m, [], wf, _, alike => by
    obtain ⟨-, inRange, -, -⟩ := Memory.wf_cons wf
    exact absurd (alike j inRange) (Memory.read_cons_ne_of_lt_all wf nofun)
  | (j, v) :: m, (k, w) :: m', wf, wf', alike => by
    have sameKey : j = k := Nat.le_antisymm
      (Nat.not_lt.mp (Memory.not_lt_of_read_eq wf' wf fun key h => (alike key h).symm))
      (Nat.not_lt.mp (Memory.not_lt_of_read_eq wf wf' alike))
    subst sameKey
    obtain ⟨below, inRange, -, wf⟩ := Memory.wf_cons wf
    obtain ⟨below', -, -, wf'⟩ := Memory.wf_cons wf'
    have sameValue : v = w := by
      simpa only [Memory.read_cons_self] using alike j inRange
    have restAlike : ∀ key, key < 65536 → Memory.read m key = Memory.read m' key := by
      intro key bound
      by_cases first : j = key
      · subst first
        rw [Memory.read_of_lt_all below, Memory.read_of_lt_all below']
      · simpa only [Memory.read_cons_of_ne first] using alike key bound
    rw [sameValue, Memory.eq_of_read_eq wf wf' restAlike]

end Sys2Proof.Machine

namespace Sys2Proof.Proofs

open Sys2Proof.Machine

/-- Settles O19: a step is an instruction's `exec`, which keeps the form. -/
theorem stepKeepsMemoryCanonical : Obligations.StepKeepsMemoryCanonical := fun _ _ inv stepped =>
  exec_keeps_wf stepped inv

/-- Settles O18: by `Memory.eq_of_read_eq`, along the two lists. -/
theorem canonicalMemoriesThatReadAlikeAreEqual :
    Obligations.CanonicalMemoriesThatReadAlikeAreEqual := fun _ _ => Memory.eq_of_read_eq

/-- Settles O20: the list of reset memory is empty. -/
theorem resetMemoryIsCanonical : Obligations.ResetMemoryIsCanonical :=
  ⟨List.Pairwise.nil, nofun⟩

end Sys2Proof.Proofs
end

section
/-! The step of 40_engine_addressing.md: what it runs, where it faults, and how long it takes. -/

namespace Sys2Proof

theorem mem_unimplementedBytes_of_undocumented {op : Byte} (h : undocumented op = true) :
    op ∈ unimplementedBytes := by
  simp only [undocumented, Bool.and_eq_true, List.contains_iff_mem] at h
  obtain ⟨⟨listed, -⟩, -⟩ := h
  exact listed

/-- The unimplemented bytes are BRK's, RTI's and the undocumented ones (R66). -/
theorem unimplementedBytes_cases {op : Byte} (h : op ∈ unimplementedBytes) :
    op = 0x00 ∨ op = 0x40 ∨ undocumented op = true := by
  by_cases brk : op = 0x00
  · exact .inl brk
  · by_cases rti : op = 0x40
    · exact .inr (.inl rti)
    · refine .inr (.inr ?_)
      simp only [undocumented, Bool.and_eq_true, List.contains_iff_mem, bne_iff_ne]
      exact ⟨⟨h, brk⟩, rti⟩

/-- An instruction decoded from an implemented opcode is none of the three kinds that stop. -/
theorem decodeBytes_ne_of_implemented {op : Byte} (h : op ∉ unimplementedBytes) (b1 b2 : Byte) :
    ¬(decodeBytes op b1 b2 = .brk ∨ decodeBytes op b1 b2 = .rti ∨
      ∃ op', decodeBytes op b1 b2 = .illegal op') := by
  have opcode := opcodeOf_decodeBytes op b1 b2
  rintro (decoded | decoded | ⟨op', decoded⟩) <;> rw [decoded] at opcode <;> cases opcode
  · exact h (by decide)
  · exact h (by decide)
  · have wellFormed := wellFormed_decodeBytes op b1 b2
    rw [decoded] at wellFormed
    exact h (mem_unimplementedBytes_of_undocumented wellFormed)

/-- What a list of three bytes decodes to is what the three bytes decode to. -/
theorem eq_decodeBytes_of_decode {b0 b1 b2 : Byte} {i : Instr} {rest : List Byte}
    (h : decode [b0, b1, b2] = .ok (i, rest)) : i = decodeBytes b0 b1 b2 := by
  have allThere : ¬[b1, b2].length + 1 < opcodeLength b0 := Nat.not_lt.mpr (opcodeLength_bounds b0).2
  rw [decode, if_neg allThere] at h
  cases h
  rfl

/-- A well-formed instruction has at most three bytes (R60). -/
theorem length_encode_le {i : Instr} (wellFormed : i.WellFormed = true) :
    (encode i).length ≤ 3 := by
  obtain ⟨op, opcode⟩ := Option.isSome_iff_exists.mp (isSome_opcodeOf wellFormed)
  have announced := opcodeLength_opcodeOf wellFormed opcode
  have atMost := (opcodeLength_bounds op).2
  simp only [encode, opcode, List.length_cons]
  omega

end Sys2Proof

namespace Sys2Proof.Machine

/-! ## Where a step faults -/

/-- An unimplemented byte stops the step with the illegal-opcode outcome (R212, R213, R220). -/
theorem exec_decodeBytes_unimplemented {op : Byte} (h : op ∈ unimplementedBytes) (b1 b2 : Byte)
    (s : State) : exec (decodeBytes op b1 b2) s = .fault (.illegalOpcode op s.pc) := by
  obtain rfl | rfl | undoc := unimplementedBytes_cases h
  · rfl
  · rfl
  · rw [decodeBytes_undocumented op b1 b2 undoc]
    rfl

theorem step_fault {s : State} (h : s.read s.pc ∈ unimplementedBytes) :
    step s = .fault (.illegalOpcode (s.read s.pc) s.pc) :=
  exec_decodeBytes_unimplemented h _ _ s

/-- Execute on an unimplemented byte: the outcome, and the cycle counter cleared (R220). -/
theorem execute_illegal {s : State} (hint : Nat) (h : s.read s.pc ∈ unimplementedBytes) :
    execute hint s = ({ s with cycles := 0 }, .illegalOpcode (s.read s.pc) s.pc) := by
  rw [execute, step_fault h]

/-- A list of at most three bytes that stand at PC, one after another, begins the bytes fetched. -/
theorem bytes_begin_fetched {s : State} {bytes : List Byte} (short : bytes.length ≤ 3)
    (placed : ∀ k, k < bytes.length → s.read (s.pc + BitVec.ofNat 16 k) = bytes.getD k 0) :
    bytes <+: [s.read s.pc, s.read (s.pc + 1), s.read (s.pc + 2)] := by
  refine List.prefix_iff_getElem?.mpr fun k inRange => ?_
  have here := placed k inRange
  rw [List.getD_eq_getElem _ _ inRange] at here
  rw [← here]
  match k, Nat.lt_of_lt_of_le inRange short with
  | 0, _ => rw [BitVec.ofNat_eq_ofNat, BitVec.add_zero]; rfl
  | 1, _ => rfl
  | 2, _ => rfl

theorem wellFormed_fetchInstr (s : State) : (fetchInstr s).WellFormed = true :=
  wellFormed_decodeBytes _ _ _

/-! ## How long a step takes -/

theorem shiftLoc_cycles (op : ShiftOp) (l : Loc) (s : State) :
    (shiftLoc op l s).cycles = locCycles l := by
  cases l <;> rfl

theorem branch_cycles (cond : Bool) (off : Byte) (s : State) :
    2 ≤ (branch cond off s).cycles ∧ (branch cond off s).cycles ≤ 7 := by
  obtain ⟨pc, cyc, post, atLeast, atMost⟩ := branch_frame cond off s
  rw [post]
  exact ⟨atLeast, Nat.le_trans atMost (by decide)⟩

/-- A well-formed instruction that completes takes from 2 to 7 cycles (R100, R101). -/
theorem exec_cycles {i : Instr} {s t : State} (wellFormed : i.WellFormed = true)
    (h : exec i s = .next t) : 2 ≤ t.cycles ∧ t.cycles ≤ 7 := by
  cases i
  case brk | rti | illegal => exact (fault_ne_next h).elim
  all_goals rw [next_eq h]
  case lda o | ldx o | ldy o | adc o | sbc o | and o | ora o | eor o | cmp o | cpx o | cpy o =>
    exact (readCycles_bounds o s).imp id fun atMost => Nat.le_succ_of_le atMost
  case bit m =>
    exact (readCycles_bounds (.mem m) s).imp id fun atMost => Nat.le_succ_of_le atMost
  case sta m | stx m | sty m =>
    exact (storeCycles_bounds m).imp Nat.le_of_succ_le fun atMost => Nat.le_succ_of_le atMost
  case asl l | lsr l | rol l | ror l =>
    rw [shiftLoc_cycles]
    exact locCycles_bounds wellFormed
  case inc m | dec m =>
    exact (rmwCycles_bounds wellFormed).imp (Nat.le_trans (by decide)) id
  case bcc off | bcs off | beq off | bne off | bmi off | bpl off | bvc off | bvs off =>
    exact branch_cycles _ off s
  all_goals exact ⟨Nat.le_of_ble_eq_true rfl, Nat.le_of_ble_eq_true rfl⟩

end Sys2Proof.Machine

namespace Sys2Proof.Proofs

open Sys2Proof.Machine

/-- Settles O4: a step runs what the three bytes at PC decode to; where they begin with an
instruction's encoding, that is the instruction, by the round trip. -/
theorem stepRunsTheDecodedInstruction : Obligations.StepRunsTheDecodedInstruction := by
  have ofDecode (s : State) (i : Instr) (rest : List Byte)
      (decoded : decode [s.read s.pc, s.read (s.pc + 1), s.read (s.pc + 2)] = .ok (i, rest)) :
      i.WellFormed = true ∧ step s = exec i s := by
    rw [eq_decodeBytes_of_decode decoded]
    exact ⟨wellFormed_decodeBytes _ _ _, rfl⟩
  refine ⟨ofDecode, fun s i wellFormed placed => ?_⟩
  obtain ⟨rest, fetched⟩ := bytes_begin_fetched (length_encode_le wellFormed) placed
  exact (ofDecode s i rest (fetched ▸ decodeOfEncodeGivesBack i rest wellFormed)).2

/-- Settles O5: an implemented opcode decodes to none of the three kinds that stop. -/
theorem stepFaultsExactlyOnUnimplemented : Obligations.StepFaultsExactlyOnUnimplemented := fun s =>
  ⟨step_fault, fun implemented => (exec_next_or_unimplemented (fetchInstr s) s).resolve_right
    (decodeBytes_ne_of_implemented implemented _ _)⟩

/-- Settles O6: the state Execute leaves has the same byte at the same PC. -/
theorem illegalOpcodeOutcomeRepeats : Obligations.IllegalOpcodeOutcomeRepeats := by
  intro s hint hint' unimplemented
  have first := execute_illegal hint unimplemented
  have again := execute_illegal (s := { s with cycles := 0 }) hint' unimplemented
  exact ⟨first, by rw [first]; exact again⟩

/-- Settles O7: each of the three raises the illegal-opcode outcome with its byte. -/
theorem unimplementedInstructionsStop : Obligations.UnimplementedInstructionsStop :=
  ⟨⟨rfl, fun _ => rfl⟩, ⟨rfl, fun _ => rfl⟩, fun _ => ⟨rfl, fun _ => rfl⟩⟩

/-- Settles O8: by the bounds of `exec_cycles`; Execute ignores the hint. -/
theorem stepTakesTwoToSevenCycles : Obligations.StepTakesTwoToSevenCycles := by
  intro s t hint stepped
  obtain ⟨atLeast, atMost⟩ := exec_cycles (wellFormed_fetchInstr s) stepped
  exact ⟨atLeast, atMost, by rw [execute, stepped]⟩

end Sys2Proof.Proofs
end

section
/-! The stack and the jumps: 16-bit values as numbers, Push and Pull, and what each instruction that
uses them does. -/

namespace Sys2Proof

open Sys2Proof.Machine Sys2Proof.Claims

/-! ## Words and their bytes as numbers -/

theorem joinBytes_eq_ofNat (h l : Byte) :
    joinBytes h l = BitVec.ofNat 16 (256 * h.toNat + l.toNat) := by
  rw [← toNat_joinBytes, BitVec.ofNat_toNat, BitVec.setWidth_eq]

theorem joinBytes_eq_wordOf (hi lo : Byte) : joinBytes hi lo = wordOf lo hi :=
  joinBytes_eq_ofNat hi lo

theorem hiByte_eq_ofNat (v : Addr) : hiByte v = BitVec.ofNat 8 (v.toNat / 256) := by
  rw [← toNat_hiByte, BitVec.ofNat_toNat, BitVec.setWidth_eq]

theorem loByte_eq_ofNat (v : Addr) : loByte v = BitVec.ofNat 8 (v.toNat % 256) := by
  rw [← toNat_loByte, BitVec.ofNat_toNat, BitVec.setWidth_eq]

/-- Adding to a word adds to its low byte. -/
theorem loByte_add (v d : Addr) : loByte (v + d) = loByte v + loByte d := by
  apply BitVec.eq_of_toNat_eq
  rw [BitVec.toNat_add, toNat_loByte, toNat_loByte, toNat_loByte, BitVec.toNat_add]
  omega

end Sys2Proof

namespace Sys2Proof.Machine

open Sys2Proof.Claims

/-! ## Stack addresses -/

/-- Page 1 with a given low byte, as a number (R16). -/
theorem toNat_pageOne (lo : Byte) : (0x0100 ||| lo.setWidth 16 : Addr).toNat = 256 + lo.toNat := by
  revert lo; decide +kernel

theorem toNat_stackAddr (sp : Addr) : (stackAddr sp).toNat = 256 + sp.toNat % 256 := by
  rw [stackAddr, toNat_pageOne, toNat_loByte]

/-- The stack address depends on SP's low byte only (R24). -/
theorem stackAddr_congr {sp sp' : Addr} (h : loByte sp' = loByte sp) : stackAddr sp' = stackAddr sp :=
  congrArg (fun lo => 0x0100 ||| lo.setWidth 16) h

theorem stackAddr_sub_one_ne (sp : Addr) : stackAddr (sp - 1) ≠ stackAddr sp := by
  intro same
  have := congrArg BitVec.toNat same
  rw [toNat_stackAddr, toNat_stackAddr, BitVec.toNat_sub] at this
  have : (1 : Addr).toNat = 1 := rfl
  omega

/-! ## Push, then Pull -/

@[simp] theorem State.push_sp (s : State) (v : Byte) : (s.push v).sp = s.sp - 1 := rfl

/-- What a Pull after a Push reads is the byte pushed. -/
theorem State.push_read_pulled (s : State) (v : Byte) :
    (s.push v).read (stackAddr ((s.push v).sp + 1)) = v := by
  rw [State.push_sp, BitVec.sub_add_cancel, State.push_read, if_pos rfl]

/-! ## The instructions that push and pull -/

theorem exec_pla (s : State) : exec .pla s = .next
    ((((s.start 1 4).setSP (s.sp + 1)).setA (s.read (stackAddr (s.sp + 1)))).setNZ
      (s.read (stackAddr (s.sp + 1)))) := rfl

theorem exec_plp (s : State) : exec .plp s = .next
    (((s.start 1 4).setSP (s.sp + 1)).mapFlags
      fun _ => Flags.unpackP (s.read (stackAddr (s.sp + 1)))) := rfl

theorem exec_rts (s : State) : exec .rts s = .next
    (((s.start 1 6).setSP (s.sp + 1 + 1)).setPC
      (joinBytes (s.read (stackAddr (s.sp + 1 + 1))) (s.read (stackAddr (s.sp + 1))) + 1)) := rfl

/-- JSR pushes the address two past its own, its last byte's (R191). -/
theorem exec_jsr (target : Addr) (s : State) : exec (.jsr target) s = .next
    ((((s.start 3 6).push (hiByte (s.pc + 2))).push (loByte (s.pc + 2))).setPC target) := by
  have lastByte : s.pc + 3 - 1 = s.pc + 2 := by
    rw [BitVec.sub_eq_add_neg, BitVec.add_assoc]
    rfl
  rw [← lastByte]
  rfl

/-- Every byte after JSR's two pushes, which are at different addresses. -/
theorem jsr_read {target : Addr} {s t : State} (called : exec (.jsr target) s = .next t) (k : Addr) :
    t.read k =
      if k = stackAddr s.sp then hiByte (s.pc + 2)
      else if k = stackAddr (s.sp - 1) then loByte (s.pc + 2)
      else s.read k := by
  rw [exec_jsr] at called
  rw [next_eq called, State.setPC_read, State.push_read, State.push_read, State.push_sp]
  by_cases first : k = stackAddr s.sp
  · have notSecond : k ≠ stackAddr (s.sp - 1) := first ▸ (stackAddr_sub_one_ne s.sp).symm
    exact (if_neg notSecond).trans ((if_pos first).trans (if_pos first).symm)
  · rw [if_neg first]
    exact congrArg _ (if_neg first)

theorem jsr_sp {target : Addr} {s t : State} (called : exec (.jsr target) s = .next t) :
    t.sp = s.sp - 1 - 1 := by
  rw [exec_jsr] at called
  rw [next_eq called]
  rfl

/-! ## The status byte -/

/-- PHP's byte as a number, for each of the 64 values of the flags (R26). -/
theorem Flags.toNat_packP (f : Flags) : f.packP.toNat = statusByte f := by
  obtain ⟨n, v, d, i, z, c⟩ := f
  revert n v d i z c; decide +kernel

theorem Flags.packP_eq (f : Flags) : f.packP = BitVec.ofNat 8 (statusByte f) := by
  rw [← Flags.toNat_packP, BitVec.ofNat_toNat, BitVec.setWidth_eq]

theorem Flags.unpackP_packP (f : Flags) : Flags.unpackP f.packP = f := by
  obtain ⟨n, v, d, i, z, c⟩ := f
  revert n v d i z c; decide +kernel

theorem Flags.unpackP_eq (b : Byte) : Flags.unpackP b = statusFlags b := by
  revert b; decide +kernel

end Sys2Proof.Machine

namespace Sys2Proof.Proofs

open Sys2Proof.Machine Sys2Proof.Claims

/-- Settles O25: the address is page 1 with SP's low byte; Push is one `MemWrite` there. -/
theorem stackPrimitives : Obligations.StackPrimitives :=
  ⟨toNat_stackAddr, fun s v => ⟨State.push_eq s v, State.push_read s v⟩, State.pull_eq⟩

/-- Settles O27: by the laws of the status byte. -/
theorem statusByteLayout : Obligations.StatusByteLayout :=
  ⟨fun f => ⟨f.toNat_packP, f.unpackP_packP⟩, Flags.unpackP_eq⟩

/-! ## Jumps and subroutines -/

/-- Settles O47: the operand's bytes stand high byte first. -/
theorem jmpAbsoluteGoesToOperand : Obligations.JmpAbsoluteGoesToOperand := by
  intro h l
  refine ⟨congrArg (0x4C :: ·) (split_joinBytes h l), fun s => ?_⟩
  rw [← joinBytes_eq_ofNat]
  rfl

/-- Settles O48: the second pointer byte is read on the first one's page. -/
theorem jmpIndirectReadsWithinPage : Obligations.JmpIndirectReadsWithinPage := by
  intro h l
  have second : jmpPtrSecond (joinBytes h l) =
      BitVec.ofNat 16 (256 * h.toNat + (l.toNat + 1) % 256) := by
    rw [jmpPtrSecond_eq, hiByte_joinBytes, loByte_joinBytes, joinBytes_eq_ofNat, BitVec.toNat_add]
    rfl
  refine ⟨congrArg (0x6C :: ·) (split_joinBytes h l), fun s => ?_⟩
  rw [← second, ← joinBytes_eq_ofNat, ← joinBytes_eq_wordOf]
  rfl

/-- Settles O49: the two bytes are pushed at two different addresses. -/
theorem jsrPushesItsLastByte : Obligations.JsrPushesItsLastByte := by
  intro h l
  refine ⟨congrArg (0x20 :: ·) (split_joinBytes h l), fun s => ⟨_, exec_jsr _ s, ?_, fun k => ?_⟩⟩
  · have twoPushes : s.sp - 1 - 1 = s.sp - 2 := BitVec.sub_sub s.sp 1 1
    rw [← joinBytes_eq_ofNat, ← twoPushes]
    rfl
  · rw [jsr_read (exec_jsr _ s), ← hiByte_eq_ofNat, ← loByte_eq_ofNat]

/-- Settles O50: RTS pulls the two bytes in the order opposite to JSR's pushes. -/
theorem rtsReturnsPastTheCall : Obligations.RtsReturnsPastTheCall := by
  have pullsTwo (s : State) : exec .rts s = .next { s with
      pc := wordOf (s.read (stackAddr (s.sp + 1))) (s.read (stackAddr (s.sp + 2))) + 1
      sp := s.sp + 2
      cycles := 6 } := by
    have twoPulls : s.sp + 1 + 1 = s.sp + 2 := BitVec.add_assoc _ _ _
    rw [exec_rts, joinBytes_eq_wordOf, twoPulls]
    rfl
  refine ⟨rfl, pullsTwo, fun target s t u called sp_eq page_eq => ⟨_, exec_rts u, ?_, ?_⟩⟩
  · have first : u.sp + 1 = s.sp - 1 := by rw [sp_eq, jsr_sp called, BitVec.sub_add_cancel]
    have second : s.sp - 1 + 1 = s.sp := BitVec.sub_add_cancel s.sp 1
    rw [State.setPC_pc, first, second, page_eq, page_eq, jsr_read called, jsr_read called,
      if_pos rfl, if_neg (stackAddr_sub_one_ne s.sp), if_pos rfl, joinBytes_hiByte_loByte]
    exact BitVec.add_assoc s.pc 2 1
  · rw [State.setPC_sp, State.setSP_sp, sp_eq, jsr_sp called, BitVec.sub_add_cancel,
      BitVec.sub_add_cancel]

/-! ## Pushes and pulls of A and of the flags -/

/-- An instruction of one byte and three cycles that pushes a byte. -/
theorem stores_of_push {i : Instr} {op : Byte} {v : State → Byte} (encoded : encode i = [op])
    (pushes : ∀ s, exec i s = .next ((s.start 1 3).push (v s))) :
    Stores i [op] 3 (fun s => stackAddr s.sp) v (fun s => { s with sp := s.sp - 1 }) :=
  ⟨encoded, fun s => ⟨_, pushes s, rfl, State.push_read (s.start 1 3) (v s)⟩⟩

/-- Settles O51: PHA pushes A. -/
theorem phaPushesAccumulator : Obligations.PhaPushesAccumulator :=
  stores_of_push rfl fun _ => rfl

/-- Settles O52: PHP pushes the status byte. -/
theorem phpPushesStatusByte : Obligations.PhpPushesStatusByte :=
  stores_of_push rfl fun s => s.flags.packP_eq ▸ rfl

/-- Settles O53: PLA pulls what PHA pushed. -/
theorem plaPullsAccumulator : Obligations.PlaPullsAccumulator := by
  refine ⟨⟨rfl, fun s => ?_⟩, fun s t pushed => ⟨_, exec_pla t, ?_, ?_⟩⟩
  · rw [exec_pla, State.setNZ_eq]
    rfl
  · rw [next_eq pushed]
    exact State.push_read_pulled (s.start 1 3) s.a
  · rw [next_eq pushed]
    exact BitVec.sub_add_cancel s.sp 1

/-- Settles O54: PLP pulls what PHP pushed, and unpacks what PHP packed. -/
theorem plpPullsStatusByte : Obligations.PlpPullsStatusByte := by
  refine ⟨⟨rfl, fun s => ?_⟩, fun s t pushed => ⟨_, exec_plp t, ?_, ?_⟩⟩
  · rw [exec_plp, Flags.unpackP_eq]
    rfl
  · rw [next_eq pushed, State.mapFlags_flags, State.push_read_pulled, Flags.unpackP_packP]
  · rw [next_eq pushed]
    exact BitVec.sub_add_cancel s.sp 1

end Sys2Proof.Proofs
end

section
/-! Who writes what, and what no instruction sees: the frames of 10_state.md by cases on the
instruction. -/

namespace Sys2Proof.Machine

open Sys2Proof.Claims

/-! ## The operations that two kinds of instruction share -/

/-- A branch leaves everything but PC and the cycle counter. -/
theorem branch_eq (cond : Bool) (off : Byte) (s : State) :
    branch cond off s =
      { s with pc := (branch cond off s).pc, cycles := (branch cond off s).cycles } := by
  cases cond <;> rfl

theorem branch_mapFlags (cond : Bool) (off : Byte) (s : State) (f : Flags → Flags) :
    branch cond off (s.mapFlags f) = (branch cond off s).mapFlags f := by
  cases cond <;> rfl

theorem branch_hooks (cond : Bool) (off : Byte) (s : State) (p q : Bool) :
    branch cond off { s with irqPending := p, nmiPending := q } =
      { branch cond off s with irqPending := p, nmiPending := q } := by
  cases cond <;> rfl

theorem branch_setSP (cond : Bool) (off : Byte) (s : State) (sp : Addr) :
    branch cond off (s.setSP sp) = (branch cond off s).setSP sp := by
  cases cond <;> rfl

/-! ## Who writes what -/

/-- A, X, Y and SP keep their values under every instruction but those listed (R21 to R24). -/
theorem exec_registers {i : Instr} {s t : State} (h : exec i s = .next t) :
    (writesA i = false → t.a = s.a) ∧ (writesX i = false → t.x = s.x) ∧
    (writesY i = false → t.y = s.y) ∧ (writesSP i = false → t.sp = s.sp) := by
  cases i
  case brk | rti | illegal => exact (fault_ne_next h).elim
  case pla =>
    rw [exec_pla] at h
    rw [next_eq h]
    refine ⟨nofun, ?_, ?_, nofun⟩ <;> simp
  case plp | rts | jsr =>
    simp only [exec_plp, exec_rts, exec_jsr] at h
    rw [next_eq h]
    refine ⟨?_, ?_, ?_, nofun⟩ <;> simp [State.push]
  all_goals rw [next_eq h]
  case lda | txa | tya | adc | sbc | and | ora | eor =>
    exact ⟨nofun, fun _ => rfl, fun _ => rfl, fun _ => rfl⟩
  case ldx | tax | tsx | inx | dex => exact ⟨fun _ => rfl, nofun, fun _ => rfl, fun _ => rfl⟩
  case ldy | tay | iny | dey => exact ⟨fun _ => rfl, fun _ => rfl, nofun, fun _ => rfl⟩
  case txs | pha | php => exact ⟨fun _ => rfl, fun _ => rfl, fun _ => rfl, nofun⟩
  case asl l | lsr l | rol l | ror l =>
    cases l with
    | acc => exact ⟨nofun, fun _ => rfl, fun _ => rfl, fun _ => rfl⟩
    | mem m => exact ⟨fun _ => rfl, fun _ => rfl, fun _ => rfl, fun _ => rfl⟩
  case bcc | bcs | beq | bne | bmi | bpl | bvc | bvs =>
    rw [branch_eq]
    exact ⟨fun _ => rfl, fun _ => rfl, fun _ => rfl, fun _ => rfl⟩
  all_goals exact ⟨fun _ => rfl, fun _ => rfl, fun _ => rfl, fun _ => rfl⟩

/-- Each flag keeps its value under every instruction but those listed (R27 to R32). -/
theorem exec_flags {i : Instr} {s t : State} (h : exec i s = .next t) :
    (writesNZ i = false → t.flags.n = s.flags.n ∧ t.flags.z = s.flags.z) ∧
    (writesV i = false → t.flags.v = s.flags.v) ∧ (writesD i = false → t.flags.d = s.flags.d) ∧
    (writesI i = false → t.flags.i = s.flags.i) ∧ (writesC i = false → t.flags.c = s.flags.c) := by
  cases i
  case brk | rti | illegal => exact (fault_ne_next h).elim
  all_goals rw [next_eq h]
  case lda | ldx | ldy | tax | tay | txa | tya | tsx | pla | and | ora | eor | inc | dec | inx |
      iny | dex | dey =>
    exact ⟨nofun, fun _ => rfl, fun _ => rfl, fun _ => rfl, fun _ => rfl⟩
  case cmp | cpx | cpy => exact ⟨nofun, fun _ => rfl, fun _ => rfl, fun _ => rfl, nofun⟩
  case adc | sbc => exact ⟨nofun, nofun, fun _ => rfl, fun _ => rfl, nofun⟩
  case bit => exact ⟨nofun, nofun, fun _ => rfl, fun _ => rfl, fun _ => rfl⟩
  case plp => exact ⟨nofun, nofun, nofun, nofun, nofun⟩
  case clv => exact ⟨fun _ => ⟨rfl, rfl⟩, nofun, fun _ => rfl, fun _ => rfl, fun _ => rfl⟩
  case cld | sed => exact ⟨fun _ => ⟨rfl, rfl⟩, fun _ => rfl, nofun, fun _ => rfl, fun _ => rfl⟩
  case cli | sei => exact ⟨fun _ => ⟨rfl, rfl⟩, fun _ => rfl, fun _ => rfl, nofun, fun _ => rfl⟩
  case clc | sec => exact ⟨fun _ => ⟨rfl, rfl⟩, fun _ => rfl, fun _ => rfl, fun _ => rfl, nofun⟩
  case asl l | lsr l | rol l | ror l =>
    cases l <;> exact ⟨nofun, fun _ => rfl, fun _ => rfl, fun _ => rfl, nofun⟩
  case bcc | bcs | beq | bne | bmi | bpl | bvc | bvs =>
    rw [branch_eq]
    exact ⟨fun _ => ⟨rfl, rfl⟩, fun _ => rfl, fun _ => rfl, fun _ => rfl, fun _ => rfl⟩
  all_goals exact ⟨fun _ => ⟨rfl, rfl⟩, fun _ => rfl, fun _ => rfl, fun _ => rfl, fun _ => rfl⟩

/-- Memory is the same after every instruction but those that store (R84). -/
theorem exec_mem {i : Instr} {s t : State} (h : exec i s = .next t) (keeps : writesMemory i = false) :
    t.mem = s.mem := by
  cases i
  case brk | rti | illegal => exact (fault_ne_next h).elim
  case sta | stx | sty | inc | dec | pha | php | jsr => cases keeps
  all_goals rw [next_eq h]
  case asl l | lsr l | rol l | ror l =>
    cases l with
    | acc => rfl
    | mem m => cases keeps
  case bcc | bcs | beq | bne | bmi | bpl | bvc | bvs => rw [branch_eq]
  all_goals rfl

/-- An instruction that transfers no control leaves PC past its bytes (R85). -/
theorem exec_pc {i : Instr} {s t : State} (h : exec i s = .next t)
    (plain : transfersControl i = false) : t.pc = s.pc + BitVec.ofNat 16 i.length := by
  cases i
  case brk | rti | illegal => exact (fault_ne_next h).elim
  case bcc | bcs | beq | bne | bmi | bpl | bvc | bvs | jmpAbs | jmpInd | jsr | rts => cases plain
  all_goals rw [next_eq h]
  case asl l | lsr l | rol l | ror l => cases l <;> rfl
  all_goals rfl

/-! ## What no instruction sees -/

/-- The hooks are neither read nor written (R33). -/
theorem exec_hooks (i : Instr) (s : State) (p q : Bool) :
    exec i { s with irqPending := p, nmiPending := q } =
      mapNext (fun t => { t with irqPending := p, nmiPending := q }) (exec i s) := by
  cases i
  case asl l | lsr l | rol l | ror l => cases l <;> rfl
  case bcc off | bcs off | beq off | bne off | bmi off | bpl off | bvc off | bvs off =>
    exact congrArg Host.Outcome.next (branch_hooks _ off s p q)
  all_goals rfl

/-- The cycle counter is set at the start, before anything is done (R35). -/
theorem exec_setCycles (i : Instr) (s : State) (k : Nat) : exec i { s with cycles := k } = exec i s := by
  cases i
  case asl l | lsr l | rol l | ror l => cases l <;> rfl
  all_goals rfl

/-- Words with the same low byte keep that under an addition. -/
theorem loByte_add_congr {u v : Addr} (same : loByte u = loByte v) (d : Addr) :
    loByte (u + d) = loByte (v + d) := by
  rw [loByte_add, loByte_add, same]

theorem loByte_sub_congr {u v : Addr} (same : loByte u = loByte v) (d : Addr) :
    loByte (u - d) = loByte (v - d) := by
  rw [BitVec.sub_eq_add_neg, BitVec.sub_eq_add_neg, loByte_add_congr same]

/-- A Push with another high byte of SP stores the same byte at the same address. -/
theorem State.setSP_push {s : State} {sp : Addr} (same : loByte sp = loByte s.sp) (v : Byte) :
    (s.setSP sp).push v = (s.push v).setSP (sp - 1) := by
  rw [State.push_eq, State.push_eq, State.setSP_sp, stackAddr_congr same]
  rfl

/-- With another high byte of SP an instruction does the same, but for the high byte it leaves in
SP. -/
theorem exec_setSP (i : Instr) {s : State} {sp : Addr} (same : loByte sp = loByte s.sp) :
    ∃ sp', exec i (s.setSP sp) = mapNext (fun t => t.setSP sp') (exec i s) ∧
      ∀ t, exec i s = .next t → loByte sp' = loByte t.sp := by
  cases i
  case brk | rti | illegal => exact ⟨sp, rfl, fun t h => (fault_ne_next h).elim⟩
  case tsx =>
    refine ⟨sp, ?_, fun t h => next_eq h ▸ same⟩
    simp only [exec, execTsx, State.setSP_sp, same]
    rfl
  case txs => exact ⟨0x0100 ||| s.x.setWidth 16, rfl, fun t h => next_eq h ▸ rfl⟩
  case pha =>
    have pushed := State.setSP_push (s := s.start 1 3) same s.a
    exact ⟨sp - 1, congrArg Host.Outcome.next pushed,
      fun t h => next_eq h ▸ loByte_sub_congr same 1⟩
  case php =>
    have pushed := State.setSP_push (s := s.start 1 3) same s.flags.packP
    exact ⟨sp - 1, congrArg Host.Outcome.next pushed,
      fun t h => next_eq h ▸ loByte_sub_congr same 1⟩
  case pla =>
    refine ⟨sp + 1, ?_, fun t h => next_eq h ▸ loByte_add_congr same 1⟩
    rw [exec_pla, exec_pla, State.setSP_sp, State.setSP_read,
      stackAddr_congr (loByte_add_congr same 1)]
    rfl
  case plp =>
    refine ⟨sp + 1, ?_, fun t h => next_eq h ▸ loByte_add_congr same 1⟩
    rw [exec_plp, exec_plp, State.setSP_sp, State.setSP_read,
      stackAddr_congr (loByte_add_congr same 1)]
    rfl
  case rts =>
    have twice := loByte_add_congr (loByte_add_congr same 1) 1
    refine ⟨sp + 1 + 1, ?_, fun t h => next_eq h ▸ twice⟩
    rw [exec_rts, exec_rts, State.setSP_sp, State.setSP_read, State.setSP_read,
      stackAddr_congr (loByte_add_congr same 1), stackAddr_congr twice]
    rfl
  case jsr target =>
    have once := loByte_sub_congr same 1
    refine ⟨sp - 1 - 1, ?_, fun t h => jsr_sp h ▸ loByte_sub_congr once 1⟩
    have first : ((s.setSP sp).start 3 6).push (hiByte (s.pc + 2)) =
        ((s.start 3 6).push (hiByte (s.pc + 2))).setSP (sp - 1) :=
      State.setSP_push (s := s.start 3 6) same _
    rw [exec_jsr, exec_jsr, State.setSP_pc, first, State.setSP_push once]
    rfl
  case asl l | lsr l | rol l | ror l =>
    cases l <;> exact ⟨sp, rfl, fun t h => next_eq h ▸ same⟩
  case bcc off | bcs off | beq off | bne off | bmi off | bpl off | bvc off | bvs off =>
    refine ⟨sp, congrArg Host.Outcome.next (branch_setSP _ off s sp), fun t h => ?_⟩
    rw [next_eq h, branch_eq]
    exact same
  all_goals exact ⟨sp, rfl, fun t h => next_eq h ▸ same⟩

end Sys2Proof.Machine

namespace Sys2Proof.Proofs

open Sys2Proof.Machine Sys2Proof.Claims

/-- Settles O9: the fetch reads PC and memory only, and the instruction sets the counter. -/
theorem cycleCounterIsOnlyAnOutput : Obligations.CycleCounterIsOnlyAnOutput := fun s k =>
  exec_setCycles (fetchInstr s) s k

/-- Settles O10: the fetch reads PC and memory only, and no instruction sees the hooks. -/
theorem pendingHooksAreInert : Obligations.PendingHooksAreInert :=
  ⟨fun s p q => exec_hooks (fetchInstr s) s p q, fun _ => ⟨rfl, rfl⟩, rfl, rfl⟩

/-- Settles O11: the fetch reads PC and memory only, and an instruction sees SP's low byte only. -/
theorem stackPointerHighByteIsInvisible : Obligations.StackPointerHighByteIsInvisible := by
  intro s high
  obtain ⟨sp', outcome, sameLow⟩ := exec_setSP (fetchInstr s) (loByte_joinBytes high (loByte s.sp))
  constructor
  · intro t stepped
    exact ⟨t.setSP sp', outcome.trans (congrArg _ stepped), sameLow t stepped, rfl⟩
  · intro r faulted
    exact outcome.trans (congrArg _ faulted)

/-- Settles O13: by cases on the instruction. -/
theorem registersKeepUnlessListed : Obligations.RegistersKeepUnlessListed := fun _ _ _ =>
  exec_registers

/-- Settles O14: by cases on the instruction. -/
theorem flagsKeepUnlessListed : Obligations.FlagsKeepUnlessListed := fun _ _ _ => exec_flags

/-- Settles O15: memory as a whole is the same. -/
theorem memoryKeepsUnlessStoredTo : Obligations.MemoryKeepsUnlessStoredTo :=
  fun _ _ _ completed keeps k => congrArg (Memory.read · k.toNat) (exec_mem completed keeps)

/-- Settles O16: a sum of words is the sum of their values mod 65536. -/
theorem plainInstructionsAdvancePC : Obligations.PlainInstructionsAdvancePC := by
  intro i s t completed plain
  rw [exec_pc completed plain, BitVec.toNat_add, BitVec.toNat_ofNat, Nat.add_mod_mod]

/-- Settles O21: the byte at PC after the store is the byte stored. -/
theorem storedByteIsFetchedNext : Obligations.StoredByteIsFetchedNext := by
  intro m s t stored atNext
  have here : t.read t.pc = s.a := by
    rw [← atNext, next_eq stored]
    exact (State.read_write (startStore m s) (effAddr m s) (effAddr m s) s.a).trans (if_pos rfl)
  rw [step, fetchInstr, here]

/-- Settles O12: each result and each of the other flags is computed from neither, but for the byte
PHP packs. -/
theorem decimalAndInterruptFlagsGateNothing : Obligations.DecimalAndInterruptFlagsGateNothing := by
  intro i s b notPhp
  cases i
  case php => exact absurd rfl notPhp
  case asl l | lsr l | rol l | ror l => cases l <;> exact ⟨rfl, rfl⟩
  case bcc off | bcs off | beq off | bne off | bmi off | bpl off | bvc off | bvs off =>
    exact ⟨congrArg Host.Outcome.next (branch_mapFlags _ off s fun f => { f with d := b }),
      congrArg Host.Outcome.next (branch_mapFlags _ off s fun f => { f with i := b })⟩
  all_goals exact ⟨rfl, rfl⟩

end Sys2Proof.Proofs
end

section
/-! Effective addresses, page crossings and operand values as numbers (40_engine_addressing.md). -/

namespace Sys2Proof.Machine

open Sys2Proof.Claims

theorem toNat_zeroPage (z : Byte) : (zeroPage z).toNat = z.toNat := by
  have := z.isLt
  rw [zeroPage, BitVec.toNat_setWidth]
  omega

theorem zeroPage_eq_ofNat (z : Byte) : zeroPage z = BitVec.ofNat 16 z.toNat := by
  rw [← toNat_zeroPage, BitVec.ofNat_toNat, BitVec.setWidth_eq]

/-- A zero-page pointer as a number, the address of its first byte taken mod 256 (R15). -/
theorem toNat_readPtrZP (s : State) {p : Byte} {n : Nat} (h : p.toNat = n % 256) :
    (readPtrZP s p).toNat = zeroPagePointer s n := by
  have next : (p + 1).toNat = (n + 1) % 256 := by
    rw [BitVec.toNat_add, h]
    exact Nat.mod_add_mod n 256 1
  rw [readPtrZP_eq, toNat_joinBytes, zeroPage_eq_ofNat, zeroPage_eq_ofNat, h, next, Nat.add_comm]
  rfl

/-- An index added to a 16-bit base as numbers (R94, R97). -/
theorem toNat_add_index (base : Addr) (index : Byte) :
    (base + index.setWidth 16).toNat = (base.toNat + index.toNat) % 65536 := by
  have := index.isLt
  rw [BitVec.toNat_add, BitVec.toNat_setWidth]
  omega

/-- The 16-bit base of the three modes that have one, as a number (R94, R97). -/
theorem toNat_baseAddr {m : MemMode} {s : State} {base : Nat} (h : indexedBase m s = some base) :
    (baseAddr m s).toNat = base := by
  cases m
  case absX | absY => exact Option.some.inj h
  case indY z => exact (toNat_readPtrZP s (Nat.mod_eq_of_lt z.isLt).symm).trans (Option.some.inj h)
  all_goals cases h

/-- The effective address as a number, whatever the mode (R90 to R94, R96, R97). -/
theorem toNat_effAddr (m : MemMode) (s : State) : (effAddr m s).toNat = addressOf m s := by
  cases m with
  | zp z => exact toNat_zeroPage z
  | zpX z => exact (toNat_zeroPage (z + s.x)).trans (BitVec.toNat_add z s.x)
  | zpY z => exact (toNat_zeroPage (z + s.y)).trans (BitVec.toNat_add z s.y)
  | abs a => rfl
  | absX b => exact toNat_add_index b s.x
  | absY b => exact toNat_add_index b s.y
  | indX z => exact toNat_readPtrZP s (BitVec.toNat_add z s.x)
  | indY z =>
    have base := toNat_baseAddr (m := .indY z) (s := s) rfl
    rw [addressOf, ← base]
    exact toNat_add_index (baseAddr (.indY z) s) s.y

theorem effAddr_eq_ofNat (m : MemMode) (s : State) :
    effAddr m s = BitVec.ofNat 16 (addressOf m s) := by
  rw [← toNat_effAddr, BitVec.ofNat_toNat, BitVec.setWidth_eq]

/-- A mode without a 16-bit base crosses no page: its effective address is its base (R86). -/
theorem crosses_of_indexedBase_none {m : MemMode} {s : State} (h : indexedBase m s = none) :
    crosses m s = false := by
  cases m
  case absX | absY | indY => cases h
  all_goals simp

/-- A mode with a 16-bit base crosses a page where the sum is on another one (R86). -/
theorem crosses_iff_of_indexedBase {m : MemMode} {s : State} {base : Nat}
    (h : indexedBase m s = some base) :
    crosses m s = true ↔ base / 256 ≠ addressOf m s / 256 := by
  rw [crosses, pageDiffers_eq, toNat_baseAddr h, toNat_effAddr, Bool.not_eq_true',
    decide_eq_false_iff_not]

end Sys2Proof.Machine

namespace Sys2Proof.Proofs

open Sys2Proof.Machine Sys2Proof.Claims

/-- Settles O22: by cases on the mode. -/
theorem effectiveAddressesFollowTheModes : Obligations.EffectiveAddressesFollowTheModes :=
  toNat_effAddr

/-- Settles O23: the mode has a 16-bit base or none. -/
theorem pageCrossingComparesPages : Obligations.PageCrossingComparesPages := by
  intro m s
  cases indexed : indexedBase m s with
  | none => simp [crosses_of_indexedBase_none indexed]
  | some base => simp [crosses_iff_of_indexedBase indexed]

/-- Settles O24: an operand in memory is at its effective address. -/
theorem operandValues : Obligations.OperandValues := by
  intro s
  have atAddress (m : MemMode) :
      s.read (effAddr m s) = s.read (BitVec.ofNat 16 (addressOf m s)) := by rw [effAddr_eq_ofNat]
  refine ⟨fun _ => rfl, atAddress, rfl, atAddress, fun _ _ => rfl, fun m r t => ⟨rfl, fun k => ?_⟩⟩
  rw [writeLoc_mem, State.read_write, ← toNat_effAddr]
  simp only [BitVec.toNat_inj]

end Sys2Proof.Proofs
end

section
/-! ADC, SBC and BIT of 42_arith_logic_compare.md: the adder as sums of numbers, and every form. -/

namespace Sys2Proof.Machine

open Sys2Proof.Claims

/-! ## The adder (R103) -/

/-- A byte read as signed. -/
theorem toInt_byte (v : Byte) : v.toInt = v.toNat - if 128 ≤ v.toNat then 256 else 0 := by
  revert v; decide +kernel

/-- The ones' complement of a byte read as signed. -/
theorem toInt_not_byte (v : Byte) : (~~~v).toInt = -1 - v.toInt := by
  revert v; decide +kernel

/-- Overflow is where the operands have one sign and the result the other. -/
theorem addWithCarry_overflow_iff (a b : Byte) (cin : Bool) :
    (addWithCarry a b cin).2.2 = true ↔
      (128 ≤ a.toNat ↔ 128 ≤ b.toNat) ∧
        ¬(128 ≤ (addWithCarry a b cin).1.toNat ↔ 128 ≤ a.toNat) := by
  rw [addWithCarry_overflow, getLsbD_seven, getLsbD_seven, getLsbD_seven]
  simp

/-- Overflow is where the signed sum does not fit in a byte. -/
theorem addWithCarry_overflow_eq (a b : Byte) (cin : Bool) :
    (addWithCarry a b cin).2.2 = outsideSignedByte (a.toInt + b.toInt + cin.toNat) := by
  have := a.isLt
  have := b.isLt
  have := Bool.toNat_le cin
  rw [Bool.eq_iff_iff, addWithCarry_overflow_iff, addWithCarry_sum, toInt_byte, toInt_byte,
    outsideSignedByte, decide_eq_true_iff]
  split <;> split <;> omega

/-- All of the adder: the sum mod 256, the carry out of the sum, the signed overflow. -/
theorem addWithCarry_eq (a b : Byte) (cin : Bool) :
    addWithCarry a b cin = (BitVec.ofNat 8 (a.toNat + b.toNat + cin.toNat),
      decide (255 < a.toNat + b.toNat + cin.toNat),
      outsideSignedByte (a.toInt + b.toInt + cin.toNat)) := by
  refine Prod.ext ?_ (Prod.ext (addWithCarry_carry a b cin) (addWithCarry_overflow_eq a b cin))
  exact BitVec.eq_of_toNat_eq ((addWithCarry_sum a b cin).trans (BitVec.toNat_ofNat _ 8).symm)

/-- The adder on the ones' complement subtracts the operand and the borrow (R141). -/
theorem addWithCarry_not_eq (a m : Byte) (cin : Bool) :
    addWithCarry a (~~~m) cin =
      (BitVec.ofInt 8 ((a.toNat : Int) - m.toNat - (1 - cin.toNat)),
        decide (0 ≤ (a.toNat : Int) - m.toNat - (1 - cin.toNat)),
        outsideSignedByte (a.toInt - m.toInt - (1 - cin.toNat))) := by
  have sum : ((a.toNat + (~~~m).toNat + cin.toNat : Nat) : Int) =
      (a.toNat - m.toNat - (1 - cin.toNat)) + 256 := by
    have := m.isLt
    rw [BitVec.toNat_not]
    omega
  have signedSum : a.toInt + (~~~m).toInt + cin.toNat = a.toInt - m.toInt - (1 - cin.toNat) := by
    rw [toInt_not_byte]
    omega
  rw [addWithCarry_eq, signedSum, ← BitVec.ofInt_natCast, sum, BitVec.ofInt_add]
  refine Prod.ext (BitVec.add_zero _) (Prod.ext (decide_eq_decide.mpr ?_) rfl)
  omega

/-- All of an addition, whatever the second operand of the adder: A, the flags, PC and the cycle
counter. -/
theorem startRead_takeSum (res : Byte × Bool × Bool) (o : ReadOperand) (s : State) :
    (startRead o s).takeSum res = { s with
      a := res.1
      flags := nzOf res.1 { s.flags with c := res.2.1, v := res.2.2 }
      pc := s.pc + BitVec.ofNat 16 (1 + o.operandLength)
      cycles := readCycles o s } := by
  rw [State.takeSum, State.mapFlags, Flags.afterAdd, Flags.setNZ_eq]
  rfl

theorem Flags.bitTest_eq (a m : Byte) (f : Flags) : Flags.bitTest a m f = bitFlags a m f := by
  rw [Flags.bitTest, beq_zero, getLsbD_seven, getLsbD_six]
  rfl

/-- All of BIT: the flags, PC and the cycle counter (R145). -/
theorem exec_bit (m : MemMode) (s : State) : exec (.bit m) s = .next { s with
    flags := bitFlags s.a (readValue (.mem m) s) s.flags
    pc := s.pc + BitVec.ofNat 16 (1 + m.operandLength)
    cycles := readCycles (.mem m) s } := by
  rw [← Flags.bitTest_eq]
  rfl

end Sys2Proof.Machine

namespace Sys2Proof.Proofs

open Sys2Proof.Machine Sys2Proof.Claims

/-- ADC, its row of R65 and what it does (R140). -/
theorem readClass_adc : ReadClass .adc 0x69 memOpcodesAdc afterAdc where
  opcode_imm _ := rfl
  opcode_mem _ := rfl
  operandBytes_eq _ := rfl
  exec_eq o s := by
    rw [exec, execAdc, startRead_takeSum, addWithCarry_eq]
    rfl

/-- SBC, its row of R65 and what it does (R141). -/
theorem readClass_sbc : ReadClass .sbc 0xE9 memOpcodesSbc afterSbc where
  opcode_imm _ := rfl
  opcode_mem _ := rfl
  operandBytes_eq _ := rfl
  exec_eq o s := by
    rw [exec, execSbc, startRead_takeSum, addWithCarry_not_eq]
    rfl

/-- Settles O26: by the laws of the adder. -/
theorem adderResultCarryOverflow : Obligations.AdderResultCarryOverflow := fun a b cin =>
  ⟨addWithCarry_sum a b cin, addWithCarry_carry a b cin, addWithCarry_overflow_iff a b cin,
    addWithCarry_overflow_eq a b cin⟩

/-- Settles O35: ADC is of the read class, and its row of R65 has the accumulator columns. -/
theorem adcAddsWithCarry : Obligations.AdcAddsWithCarry := readClass_adc.accForms

/-- Settles O36: SBC is of the read class, and its row of R65 has the accumulator columns. -/
theorem sbcSubtractsWithBorrow : Obligations.SbcSubtractsWithBorrow := readClass_sbc.accForms

/-- Settles O38: the row of BIT in R65 has zero page and absolute. -/
theorem bitTestsMemory : Obligations.BitTestsMemory := by
  refine fun b h l => ⟨⟨rfl, fun s => ?_⟩, congrArg (0x2C :: ·) (split_joinBytes h l), fun s => ?_⟩
  · rw [exec_bit, readCycles_zp]
    rfl
  · rw [exec_bit, readCycles_abs]
    rfl

end Sys2Proof.Proofs
end

section
/-! INC and DEC, the transfers of SP, the flag instructions and NOP: from the row of R65 or the one
opcode byte and what the instruction does. -/

namespace Sys2Proof.Machine

open Sys2Proof.Claims

/-- All of an increment or decrement: one byte, the flags, PC and the cycle counter. -/
theorem modifyMem_eq (f : Byte → Byte) (m : MemMode) (s : State) :
    modifyMem f m s = { s with
      flags := nzOf (f (s.read (effAddr m s))) s.flags
      pc := s.pc + BitVec.ofNat 16 (1 + m.operandLength)
      cycles := rmwCycles m
      mem := (s.write (effAddr m s) (f (s.read (effAddr m s)))).mem } := by
  rw [modifyMem, State.setNZ_eq]
  rfl

theorem pageOne_eq_ofNat (lo : Byte) :
    (0x0100 ||| lo.setWidth 16 : Addr) = BitVec.ofNat 16 (256 + lo.toNat) := by
  rw [← toNat_pageOne, BitVec.ofNat_toNat, BitVec.setWidth_eq]

end Sys2Proof.Machine

namespace Sys2Proof.Proofs

open Sys2Proof.Machine Sys2Proof.Claims

/-- INC, its row of R65 and what it does (R164). -/
theorem storeClass_inc : StoreClass .inc memOpcodesInc rmwCycles
    (fun m s => plusOne (s.read (effAddr m s)))
    (fun m s => { s with flags := nzOf (plusOne (s.read (effAddr m s))) s.flags }) where
  opcode_eq _ := rfl
  operandBytes_eq _ := rfl
  exec_eq m s := by
    rw [exec, execInc, modifyMem_eq, add_one_eq_plusOne]

/-- DEC, its row of R65 and what it does (R165). -/
theorem storeClass_dec : StoreClass .dec memOpcodesDec rmwCycles
    (fun m s => minusOne (s.read (effAddr m s)))
    (fun m s => { s with flags := nzOf (minusOne (s.read (effAddr m s))) s.flags }) where
  opcode_eq _ := rfl
  operandBytes_eq _ := rfl
  exec_eq m s := by
    rw [exec, execDec, modifyMem_eq, sub_one_eq_minusOne]

/-- Settles O44: the rows of INC and DEC in R65 have the four memory columns stated. -/
theorem incDecModifyMemory : Obligations.IncDecModifyMemory :=
  ⟨fun _ _ _ => ⟨storeClass_inc.stores rfl, storeClass_inc.stores rfl,
      storeClass_inc.stores_word rfl rfl, storeClass_inc.stores_word rfl rfl⟩,
    fun _ _ _ => ⟨storeClass_dec.stores rfl, storeClass_dec.stores rfl,
      storeClass_dec.stores_word rfl rfl, storeClass_dec.stores_word rfl rfl⟩⟩

/-- Settles O34: TSX ends in `SetNZ` of SP's low byte, TXS makes an address of page 1. -/
theorem stackPointerTransfers : Obligations.StackPointerTransfers := by
  refine ⟨⟨rfl, fun s => ?_⟩, ⟨rfl, fun s => ?_⟩⟩
  · rw [exec, execTsx, State.setNZ_eq, loByte_eq_ofNat]
    rfl
  · rw [exec, execTxs, pageOne_eq_ofNat]
    rfl

/-- Settles O55: each of the seven is one byte and changes the flags by setting its one. -/
theorem flagInstructionsWriteOneFlag : Obligations.FlagInstructionsWriteOneFlag :=
  ⟨⟨rfl, fun _ => rfl⟩, ⟨rfl, fun _ => rfl⟩, ⟨rfl, fun _ => rfl⟩, ⟨rfl, fun _ => rfl⟩,
    ⟨rfl, fun _ => rfl⟩, ⟨rfl, fun _ => rfl⟩, ⟨rfl, fun _ => rfl⟩⟩

/-- Settles O56: NOP is one byte and only starts. -/
theorem nopOnlyAdvances : Obligations.NopOnlyAdvances := ⟨rfl, fun _ => rfl⟩

end Sys2Proof.Proofs
end

section
/-! Reset and the host's direct access (70_reset_and_hazards.md). -/

namespace Sys2Proof.Machine

/-- A flag or hook written directly takes the value modulo 2 (notes/assumptions/12.md). -/
theorem toNat_mod_two_beq_one (value : Nat) : (value % 2 == 1).toNat = value % 2 := by
  obtain even | odd := Nat.mod_two_eq_zero_or_one value
  · rw [even]
    rfl
  · rw [odd]
    rfl

theorem hostRead_hostWrite_mem (s : State) (value : Nat) (k j : Addr) :
    hostRead (hostWrite s (.mem k) value) (.mem j) =
      if j = k then value % 256 else hostRead s (.mem j) := by
  rw [hostRead, hostWrite, State.read_write]
  split
  · exact BitVec.toNat_ofNat value 8
  · rfl

/-- A direct write changes no other place. -/
theorem hostRead_hostWrite_of_ne (s : State) (value : Nat) {p q : Place} (different : p ≠ q) :
    hostRead (hostWrite s p value) q = hostRead s q := by
  cases p <;> cases q
  case mem.mem k j =>
    have otherAddress : j ≠ k := fun same => different (congrArg Place.mem same.symm)
    rw [hostRead_hostWrite_mem, if_neg otherAddress]
  case a.a | x.x | y.y | sp.sp | pc.pc | n.n | v.v | d.d | i.i | z.z | c.c |
      irqPending.irqPending | nmiPending.nmiPending =>
    exact absurd rfl different
  all_goals rfl

end Sys2Proof.Machine

namespace Sys2Proof.Proofs

open Sys2Proof.Machine

/-- Settles O57: each value is that of `State.reset`. -/
theorem resetLeavesTheStatedValues : Obligations.ResetLeavesTheStatedValues :=
  ⟨fun _ => rfl, rfl, rfl, rfl, rfl, rfl, rfl, rfl, rfl, rfl, State.reset_read, rfl⟩

/-- Settles O58: the byte at PC is 0x00, which is unimplemented, and the counter is 0 already. -/
theorem firstStepAfterResetIsIllegal : Obligations.FirstStepAfterResetIsIllegal := by
  have unimplemented : State.reset.read State.reset.pc ∈ unimplementedBytes := by decide
  exact ⟨step_fault unimplemented, fun hint => execute_illegal hint unimplemented⟩

/-- Settles O59: a place takes a value modulo its width; flags and hooks are one bit wide. -/
theorem directWritesReadBack : Obligations.DirectWritesReadBack := by
  intro s value
  have byte : (BitVec.ofNat 8 value).toNat = value % 256 := BitVec.toNat_ofNat value 8
  have word : (BitVec.ofNat 16 value).toNat = value % 65536 := BitVec.toNat_ofNat value 16
  have bit := toNat_mod_two_beq_one value
  simp only [List.forall_mem_cons]
  refine ⟨⟨byte, byte, byte, nofun⟩, ⟨word, word, nofun⟩,
    ⟨bit, bit, bit, bit, bit, bit, bit, bit, nofun⟩, fun k => ?_, fun p q different =>
      hostRead_hostWrite_of_ne s value different⟩
  rw [hostRead_hostWrite_mem, if_pos rfl]

end Sys2Proof.Proofs
end
